-- ==== Sys2Proof/Word.lean ====
section
/-! DEFINITION. The widths and the closed sets of names of the PIPE Translation Engine
(`spec/30_encoding.md` section 1 to 6, `spec/10_state.md`). The engine has no instruction word and no
general register (R22, R23, R90): what a processor model calls a word is here a line symbol, a payload
or a symbol record. -/

namespace Sys2Proof

/-- A decoded 8b/10b byte, bits `H G F E D C B A` (R92). -/
abbrev Byte := BitVec 8
/-- A line symbol of codec `C8B10B`, format `LINE10`, bit 0 first on the wire (R91). -/
abbrev Line10 := BitVec 10
/-- A raw word or a line symbol of codec `C128B130B`, format `LINE130` (R93); with codec 0 only the low
ten bits are used (R113). -/
abbrev Block := BitVec 130
/-- The 128-bit payload of a block, and the width of both parallel data buses (R63, R93). -/
abbrev Payload := BitVec 128
/-- A scrambler register, 23 bits, the low 16 used in `C8B10B` (R36, R246). -/
abbrev Lfsr := BitVec 23
/-- A rate code (R103). -/
abbrev RateCode := BitVec 2
/-- A power-state code: 0 is P0, 1 to 3 are P1 to P3 (R104). -/
abbrev PowerCode := BitVec 2

/-- The codec bit: 0 `C8B10B`, 1 `C128B130B` (R108). -/
inductive Codec where
  | c8b10b
  | c128b130b
deriving DecidableEq, Repr, Inhabited

/-- Running disparity: RD- is stored as 0, RD+ as 1 (R108). -/
inductive Rd where
  | minus
  | plus
deriving DecidableEq, Repr, Inhabited

/-- The tag of a symbol record (R95). Code 3 is never produced, and this type excludes it (R115). -/
inductive Tag where
  | data
  | control
  | error
deriving DecidableEq, Repr, Inhabited

/-- The error kind of a symbol record (R97). Code 3 is never produced, and this type excludes it (R115). -/
inductive Ek where
  | none
  | code
  | disp
deriving DecidableEq, Repr, Inhabited

/-- Format `SYMREC`, 134 bits: the form in which every decoded symbol travels (R96). -/
structure SymRec where
  data : Payload
  tag : Tag
  ek : Ek
  dl : Bool
  ins : Bool
deriving DecidableEq, Repr, Inhabited

/-- Format `SLOT`, 133 bits: a symbol record without `ins`, as an elastic-buffer slot holds it (R98). -/
structure Slot where
  data : Payload
  tag : Tag
  ek : Ek
  dl : Bool
deriving DecidableEq, Repr, Inhabited

/-- The seven controller states, format `CTLSTATE3` (R105). Code 7 is never produced, and this type
excludes it (R115). -/
inductive CtlState where
  | reset
  | detect
  | align
  | configure
  | active
  | idle
  | transition
deriving DecidableEq, Repr, Inhabited

/-- The cause codes 0 to 6, format `ERRCAUSE3` (R106, R366). Code 2 exists and is never recorded (I14);
code 7 is reserved and this type excludes it. -/
inductive Cause where
  | none
  | alignmentLost
  | codecDecodeError
  | bufferOverflow
  | bufferUnderflow
  | scramblerDesync
  | commandTimeout
deriving DecidableEq, Repr, Inhabited

/-- The state of the buffer's read side (R107). Code 3 is never produced, and this type excludes it. -/
inductive RdState where
  | held
  | priming
  | running
deriving DecidableEq, Repr, Inhabited

/-- The receive status codes 0 to 7, format `RXSTATUS3` (R110). -/
inductive RxStatus where
  | ok
  | skpAdded
  | skpRemoved
  | receiverDetected
  | decodeError
  | overflow
  | underflow
  | disparityError
deriving DecidableEq, Repr, Inhabited

/-- The two agents, one for each clock domain (R14). -/
inductive Agent where
  | rx
  | core
deriving DecidableEq, Repr, Inhabited

/-- The two scrambler instances: `scr` transmits, `dsc` receives (R36). -/
inductive ScrInst where
  | scr
  | dsc
deriving DecidableEq, Repr, Inhabited

end Sys2Proof
end

