-- ==== Sys2Proof/Machine/Code10.lean ====
section
/-! DEFINITION. The 8b/10b code (`spec/41_codec_8b10b.md` rules R150 to R157 and R164): the tables, the
running disparity, the encoding function and the decode columns. Every code string is written as in the
spec, in wire order, leftmost bit first; `wire` turns it into the number whose bit 0 is sent first. -/

namespace Sys2Proof.Code10

/-- The `n`-bit string written in wire order, as a number with the leftmost bit in bit 0 (R91). -/
def wire : Nat → Nat → Nat
  | 0, _ => 0
  | n + 1, s => (s % 2) * 2 ^ n + wire n (s / 2)

/-- One table row: the sub-block sent from RD- and the one sent from RD+. -/
def pick (row : Nat × Nat) : Rd → Nat
  | .minus => row.1
  | .plus => row.2

/-- The 5b/6b table, row `x`, strings `abcdei` (R151). -/
def t6Strings : List (Nat × Nat) :=
  [ (0b100111, 0b011000), (0b011101, 0b100010), (0b101101, 0b010010), (0b110001, 0b110001),
    (0b110101, 0b001010), (0b101001, 0b101001), (0b011001, 0b011001), (0b111000, 0b000111),
    (0b111001, 0b000110), (0b100101, 0b100101), (0b010101, 0b010101), (0b110100, 0b110100),
    (0b001101, 0b001101), (0b101100, 0b101100), (0b011100, 0b011100), (0b010111, 0b101000),
    (0b011011, 0b100100), (0b100011, 0b100011), (0b010011, 0b010011), (0b110010, 0b110010),
    (0b001011, 0b001011), (0b101010, 0b101010), (0b011010, 0b011010), (0b111010, 0b000101),
    (0b110011, 0b001100), (0b100110, 0b100110), (0b010110, 0b010110), (0b110110, 0b001001),
    (0b001110, 0b001110), (0b101110, 0b010001), (0b011110, 0b100001), (0b101011, 0b010100) ]

/-- The row used in place of row 28 for a control symbol K28.y (R151). -/
def t6K28Strings : Nat × Nat := (0b001111, 0b110000)

/-- The 3b/4b data table with the primary row P7, strings `fghj` (R152). -/
def t4dStrings : List (Nat × Nat) :=
  [ (0b1011, 0b0100), (0b1001, 0b1001), (0b0101, 0b0101), (0b1100, 0b0011),
    (0b1101, 0b0010), (0b1010, 0b1010), (0b0110, 0b0110), (0b1110, 0b0001) ]

/-- The 3b/4b control table; its row 7 is the alternate A7 (R152, R154). -/
def t4kStrings : List (Nat × Nat) :=
  [ (0b1011, 0b0100), (0b0110, 0b1001), (0b1010, 0b0101), (0b1100, 0b0011),
    (0b1101, 0b0010), (0b0101, 0b1010), (0b1001, 0b0110), (0b0111, 0b1000) ]

/-- The alternate row A7 (R152). -/
def t4a7Strings : Nat × Nat := (0b0111, 0b1000)

/-- `T6[x][rd]`, bit 0 the letter `a`. -/
def t6 (x : Nat) (rd : Rd) : Nat := wire 6 (pick (t6Strings.getD x (0, 0)) rd)
/-- `T6K28[rd]`. -/
def t6K28 (rd : Rd) : Nat := wire 6 (pick t6K28Strings rd)
/-- `T4D[y][rd]`, bit 0 the letter `f`. -/
def t4d (y : Nat) (rd : Rd) : Nat := wire 4 (pick (t4dStrings.getD y (0, 0)) rd)
/-- `T4K[y][rd]`. -/
def t4k (y : Nat) (rd : Rd) : Nat := wire 4 (pick (t4kStrings.getD y (0, 0)) rd)
/-- `T4A7[rd]`. -/
def t4a7 (rd : Rd) : Nat := wire 4 (pick t4a7Strings rd)

/-- The number of one bits among the low `n` bits (R18). -/
def popcount : Nat → Nat → Nat
  | 0, _ => 0
  | n + 1, v => v % 2 + popcount n (v / 2)

/-- `sub_rd(rd, s)` for a sub-block `s` of `n` bits, six or four (R153). -/
def subRd (n : Nat) (rd : Rd) (s : Nat) : Rd :=
  if n < 2 * popcount n s then .plus
  else if 2 * popcount n s < n then .minus
  else if (n = 6 ∧ s = wire 6 0b000111) ∨ (n = 4 ∧ s = wire 4 0b0011) then .plus
  else if (n = 6 ∧ s = wire 6 0b111000) ∨ (n = 4 ∧ s = wire 4 0b1100) then .minus
  else rd

/-- The disparity after a whole line symbol, computed from its bits alone (R153, R168). -/
def lineRd (rd : Rd) (v : Line10) : Rd := subRd 4 (subRd 6 rd (v.toNat % 64)) (v.toNat / 64)

/-- The twelve valid control bytes (R155). -/
def kBytes : List Byte :=
  [0x1C, 0x3C, 0x5C, 0x7C, 0x9C, 0xBC, 0xDC, 0xFC, 0xF7, 0xFB, 0xFD, 0xFE]

/-- `is_k(b)` (R155). -/
def isK (b : Byte) : Bool := kBytes.contains b

/-- When a data symbol D.x.7 takes the alternate row A7 (R154). -/
def altA7 (x : Nat) : Rd → Bool
  | .minus => x == 17 || x == 18 || x == 20
  | .plus => x == 11 || x == 13 || x == 14

/-- The six-bit sub-block of a symbol (R157). -/
def sub6 (k : Bool) (b : Byte) (rd : Rd) : Nat :=
  if k && b.toNat % 32 == 28 then t6K28 rd else t6 (b.toNat % 32) rd

/-- The four-bit sub-block of a symbol, from the disparity after its six-bit sub-block (R157). -/
def sub4 (k : Bool) (b : Byte) (rd1 : Rd) : Nat :=
  if k then t4k (b.toNat / 32) rd1
  else if b.toNat / 32 == 7 && altA7 (b.toNat % 32) rd1 then t4a7 rd1
  else t4d (b.toNat / 32) rd1

/-- `enc10(k, b, rd)`: the line symbol and the disparity after it (R157). -/
def enc10 (k : Bool) (b : Byte) (rd : Rd) : Line10 × Rd :=
  let s6 := sub6 k b rd
  let rd1 := subRd 6 rd s6
  let s4 := sub4 k b rd1
  (BitVec.ofNat 10 (s6 + 64 * s4), subRd 4 rd1 s4)

/-- The 268 legal pairs `(k, b)` (R163): every data byte and the twelve control bytes. -/
def symbols : List (Bool × Byte) :=
  (List.range 256).map (fun n => (false, BitVec.ofNat 8 n)) ++ kBytes.map (fun b => (true, b))

/-- `dec_col(rd, v)`: the pair whose encoding from `rd` is the word `v` (R164). -/
def decCol (rd : Rd) (v : Line10) : Option (Bool × Byte) :=
  symbols.find? (fun kb => (enc10 kb.1 kb.2 rd).1 == v)

/-- The other running disparity. -/
def flip : Rd → Rd
  | .minus => .plus
  | .plus => .minus

end Sys2Proof.Code10
end

