-- ==== Sys2Proof/Config.lean ====
section
/-! DEFINITION. What an implementation fixes (the parameter table R10 of `spec/00_scope.md`), the two
signal lists of the interfaces (R111 to R114), one step's stimulus (R14, R15, R117), and the free
values: constants with no body, so that no proof can rest on what they are. -/

namespace Sys2Proof

/-- `pipeVersion` (R347): one layout is defined; any other value is OPEN (I1). -/
inductive PipeVersion where
  | pipeDefault
  | other (version : Nat)
deriving DecidableEq, Repr, Inhabited

/-- `SCR_POLY[c]`, `SCR_SEED[c]`, `SCR_LEN[c]` of one codec (R246). -/
structure ScrParams where
  poly : Nat
  seed : Nat
  len : Nat
deriving DecidableEq, Repr, Inhabited

/-- The parameter table (R10). The three buffer thresholds are functions of `bufferDepth` (I3). A codec
row that is absent is a codec that is undefined for that rate (R423). -/
structure Params where
  pipeVersion : PipeVersion
  supportedRates : List RateCode
  codecVariant : List (RateCode × Codec)
  bufferDepth : Nat
  lockThreshold : Nat
  confMax : Nat
  alignTimeout : Nat
  tDetect : Nat
  tAlign : Nat
  tConfigure : Nat
  alignLossLimit : Nat
  decodeErrLimit : Nat
  sigdetDebounce : Nat
  tolPpm : Nat
  scr8 : ScrParams
  scr128 : ScrParams
deriving DecidableEq, Repr, Inhabited

/-- The defaults of R10. -/
def Params.default : Params where
  pipeVersion := .pipeDefault
  supportedRates := [0, 1, 2]
  codecVariant := [(0, .c8b10b), (1, .c8b10b), (2, .c128b130b)]
  bufferDepth := 16
  lockThreshold := 4
  confMax := 7
  alignTimeout := 4096
  tDetect := 4096
  tAlign := 16384
  tConfigure := 256
  alignLossLimit := 2
  decodeErrLimit := 16
  sigdetDebounce := 4
  tolPpm := 600
  scr8 := { poly := 0x0039, seed := 0xFFFF, len := 16 }
  scr128 := { poly := 0x210125, seed := 0x1DBFBC, len := 23 }

/-- The MAC's pins into the engine (R111). -/
structure MacPins where
  resetN : Bool
  rate : RateCode
  powerdown : PowerCode
  txData : Payload
  txDatak : Bool
  txElecidle : Bool
  txDetectrx : Bool
deriving DecidableEq, Repr, Inhabited

/-- The engine's pins toward the MAC (R112). -/
structure MacOut where
  ready : Bool
  ctlState : BitVec 3
  curRate : RateCode
  curPower : PowerCode
  errCause : BitVec 3
  phyStatus : Bool
  rateReject : Bool
  rxValid : Bool
  rxData : Payload
  rxDatak : Bool
  rxStatus : BitVec 3
  rxElecidle : Bool
  txKerr : Bool
deriving DecidableEq, Repr, Inhabited

/-- The engine's signals toward the SerDes (R114). -/
structure SerOut where
  txWord : Block
  txValid : Bool
  txElecidle : Bool
  rate : RateCode
  codec : Codec
  reset : Bool
  powerdown : PowerCode
  rxdetReq : Bool
deriving DecidableEq, Repr, Inhabited

/-- The choices of an RX step's `sample` reads, one bit for each sampled bit: 1 takes the old value
(R226). They count only where the source's owner has stepped since the last RX step. -/
structure RxChoice where
  req : Bool
  rgray : Nat
  cmd : BitVec 4
deriving DecidableEq, Repr, Inhabited

/-- The choices of a CORE step's `sample` reads (R226). -/
structure CoreChoice where
  ack : Bool
  wgray : Nat
  locked : Bool
  ovf : Bool
  sigdet : Bool
deriving DecidableEq, Repr, Inhabited

/-- What the environment supplies for one CORE step (R15). -/
structure CoreInputs where
  mac : MacPins
  sigdet : Bool
  rxdetDone : Bool
  rxdetPresent : Bool
deriving DecidableEq, Repr, Inhabited

/-- Choices that take the present value of every source. -/
def RxChoice.now : RxChoice := { req := false, rgray := 0, cmd := 0 }
/-- Choices that take the present value of every source. -/
def CoreChoice.now : CoreChoice := { ack := false, wgray := 0, locked := false, ovf := false, sigdet := false }

/-- Every MAC pin 0 (R117). -/
def MacPins.zero : MacPins :=
  { resetN := false, rate := 0, powerdown := 0, txData := 0, txDatak := false, txElecidle := false,
    txDetectrx := false }

/-- One line of a stimulus sequence: one clock edge of one agent, with the inputs present at it (R117)
and the choices of its `sample` reads. -/
inductive Stimulus where
  | rx (word : Block) (choice : RxChoice)
  | core (inputs : CoreInputs) (choice : CoreChoice)
deriving DecidableEq, Repr, Inhabited

/-- The agent whose clock edge a stimulus line is. -/
def Stimulus.agent : Stimulus → Agent
  | .rx _ _ => .rx
  | .core _ _ => .core

/-- FREE VALUE (log entry 3). The environment once the stimulus sequence of State has run out: which
agent's edge comes next, with which inputs and which `sample` choices, at each count of such edges. R14
and R15 fix none of it. -/
opaque Config.freeStimulus : Nat → Stimulus

/-- FREE VALUE (log entry 7). How a layout other than `PIPE_DEFAULT` carries the MAC's pins (R347, OPEN). -/
opaque Config.openLayoutIn : Nat → MacPins → MacPins

/-- FREE VALUE (log entry 7). How a layout other than `PIPE_DEFAULT` shows the adapter's outputs (R347, OPEN). -/
opaque Config.openLayoutOut : Nat → MacOut → MacOut

end Sys2Proof
end

