-- ==== Sys2Proof/Machine/Params.lean ====
section
/-! DEFINITION. The constants derived from the parameter table (R11), and which configurations the rules
of the spec hold for (R10, R423). -/

namespace Sys2Proof

/-- `W[c]`: the width of a line symbol in bits (R11). -/
def Codec.lineWidth : Codec → Nat
  | .c8b10b => 10
  | .c128b130b => 130

/-- `N[c]`: the width of a decoded symbol in bits (R11). -/
def Codec.dataWidth : Codec → Nat
  | .c8b10b => 8
  | .c128b130b => 128

/-- `M`: the width of the pattern the aligner searches for (R132). -/
def Codec.markerWidth : Codec → Nat
  | .c8b10b => 7
  | .c128b130b => 130

/-- `PB = log2(D) + 1` (R11). -/
def Params.pb (c : Params) : Nat := Nat.log2 c.bufferDepth + 1

/-- `EB_START = D/2 - 2` (R10). -/
def Params.ebStart (c : Params) : Nat := c.bufferDepth / 2 - 2

/-- `EB_LOW = D/2 - 4` (R10). -/
def Params.ebLow (c : Params) : Nat := c.bufferDepth / 2 - 4

/-- `EB_HIGH = D/2 + 4` (R10). -/
def Params.ebHigh (c : Params) : Nat := c.bufferDepth / 2 + 4

/-- Membership of `supportedRates`. -/
def Params.supports (c : Params) (r : RateCode) : Bool := c.supportedRates.contains r

/-- `codecVariant[r]`. Where the table has no row the configuration is refused (R423) if the rate is
supported, and no rule reads the value if it is not. -/
def Params.codecOf (c : Params) (r : RateCode) : Codec := (c.codecVariant.lookup r).getD .c8b10b

/-- `LOWEST_RATE = min(supportedRates)` (R11). -/
def Params.lowestRate (c : Params) : RateCode :=
  if c.supports 0 then 0 else if c.supports 1 then 1 else if c.supports 2 then 2 else 3

/-- The scrambler parameters of a codec (R246). -/
def Params.scr (c : Params) : Codec → ScrParams
  | .c8b10b => c.scr8
  | .c128b130b => c.scr128

/-- `SCR_SEED[c]` as the 23-bit register holds it. -/
def Params.seed (c : Params) (k : Codec) : Lfsr := BitVec.ofNat 23 (c.scr k).seed

/-- The mask and the seed of an LFSR fit in its length, and the length in the register (R36, R246). -/
def ScrParams.legal (p : ScrParams) : Bool :=
  decide (1 ≤ p.len ∧ p.len ≤ 23 ∧ p.poly < 2 ^ p.len ∧ p.seed < 2 ^ p.len)

/-- The constraints of R10: outside them the behaviour is not specified and the model refuses the
configuration (R423, I7). -/
def Params.legal (c : Params) : Bool :=
  decide (16 ≤ c.bufferDepth ∧ c.bufferDepth = 2 ^ Nat.log2 c.bufferDepth) &&
  !c.supportedRates.isEmpty &&
  c.supportedRates.all (fun r => (c.codecVariant.lookup r).isSome) &&
  decide (2 ≤ c.lockThreshold ∧ c.lockThreshold ≤ c.confMax) &&
  decide (1 ≤ c.alignTimeout ∧ 1 ≤ c.tDetect ∧ 1 ≤ c.tAlign ∧ 1 ≤ c.tConfigure) &&
  decide (1 ≤ c.alignLossLimit ∧ 1 ≤ c.decodeErrLimit ∧ 1 ≤ c.sigdetDebounce) &&
  c.scr8.legal && c.scr128.legal

end Sys2Proof
end

