-- ==== Sys2Proof/Machine/Codes.lean ====
section
/-! DEFINITION. The numeric codes of the formats (`spec/30_encoding.md` section 3 to 6), the block code
of codec `C128B130B`, the aligner's marker and window, the filler predicate, the Gray code, and the LFSR
with the ordered-set tracker: functions of plain values, over which the operations are written. -/

namespace Sys2Proof

-- Codes of the closed sets of names

/-- The codec code (R108). -/
def Codec.num : Codec → Nat
  | .c8b10b => 0
  | .c128b130b => 1

/-- The codec of a codec bit (R108). -/
def Codec.ofBit (b : Bool) : Codec := if b then .c128b130b else .c8b10b

/-- The running-disparity code (R108). -/
def Rd.num : Rd → Nat
  | .minus => 0
  | .plus => 1

/-- The code of the read side's state, `eb.rd_state` (R107). -/
def RdState.num : RdState → Nat
  | .held => 0
  | .priming => 1
  | .running => 2

/-- The tag code (R95). -/
def Tag.num : Tag → Nat
  | .data => 0
  | .control => 1
  | .error => 2

/-- The error-kind code (R97). -/
def Ek.num : Ek → Nat
  | .none => 0
  | .code => 1
  | .disp => 2

/-- The controller-state code (R105). -/
def CtlState.num : CtlState → Nat
  | .reset => 0
  | .detect => 1
  | .align => 2
  | .configure => 3
  | .active => 4
  | .idle => 5
  | .transition => 6

/-- The cause code (R106, R366). -/
def Cause.num : Cause → Nat
  | .none => 0
  | .alignmentLost => 1
  | .codecDecodeError => 2
  | .bufferOverflow => 3
  | .bufferUnderflow => 4
  | .scramblerDesync => 5
  | .commandTimeout => 6

/-- The receive-status code (R110). -/
def RxStatus.num : RxStatus → Nat
  | .ok => 0
  | .skpAdded => 1
  | .skpRemoved => 2
  | .receiverDetected => 3
  | .decodeError => 4
  | .overflow => 5
  | .underflow => 6
  | .disparityError => 7

-- Symbol records

/-- The low byte of a record's data (R96). -/
def SymRec.byte (r : SymRec) : Byte := r.data.setWidth 8

/-- A record of the decoder or the adapter: no error, no buffer marks (R166). -/
def SymRec.good (k : Bool) (data : Payload) : SymRec :=
  { data := data, tag := if k then .control else .data, ek := .none, dl := false, ins := false }

/-- A record tagged ERROR (R166, R187). -/
def SymRec.bad (kind : Ek) (data : Payload) : SymRec :=
  { data := data, tag := .error, ek := kind, dl := false, ins := false }

/-- The record with every field zero: what an unspecified record reads as at power-up (log entry 4). -/
def SymRec.blank : SymRec := { data := 0, tag := .data, ek := .none, dl := false, ins := false }

/-- The slot with every field zero: what a slot that nothing has written reads as (log entry 5). -/
def Slot.blank : Slot := { data := 0, tag := .data, ek := .none, dl := false }

/-- The record stored, with the mark of the fillers dropped before it (R98, R199). -/
def Slot.ofRec (r : SymRec) (dl : Bool) : Slot := { data := r.data, tag := r.tag, ek := r.ek, dl := dl }

/-- The record a slot is read into (R98, R208). -/
def Slot.toRec (h : Slot) : SymRec := { data := h.data, tag := h.tag, ek := h.ek, dl := h.dl, ins := false }

-- The block code

/-- `EIEOS_PAY` (R184). -/
def eieosPay : Payload := 0xFF00FF00FF00FF00FF00FF00FF00FF00

/-- The sync header of a control flag: ordered set `0b01`, data `0b10` (R94, R100). -/
def syncOf (k : Bool) : Nat := if k then 1 else 2

/-- `enc130(k, data)`: payload in bits 129:2, sync header in bits 1:0 (R180). -/
def enc130 (k : Bool) (d : Payload) : Block := BitVec.ofNat 130 (4 * d.toNat + syncOf k)

/-- The sync header of a block, as a number (R93). -/
def Block.sync (b : Block) : Nat := b.toNat % 4

/-- The payload of a block (R93, R100). -/
def Block.payload (b : Block) : Payload := BitVec.ofNat 128 (b.toNat / 4)

/-- `EIEOS_BLK` (R184). -/
def eieosBlk : Block := enc130 true eieosPay

-- The aligner's window

/-- `v[lo+n-1 : lo]` (R18). -/
def slice (v lo n : Nat) : Nat := v / 2 ^ lo % 2 ^ n

/-- `win`: the previous word in the low half, the current one in the high half (R133). -/
def window (c : Codec) (prev raw : Block) : Nat :=
  prev.toNat % 2 ^ c.lineWidth + 2 ^ c.lineWidth * (raw.toNat % 2 ^ c.lineWidth)

/-- `marker(c, m)`: a comma of either disparity, or the EIEOS block (R132). -/
def marker : Codec → Nat → Bool
  | .c8b10b, m => m == 0x7C || m == 0x03
  | .c128b130b, m => m == eieosBlk.toNat

/-- `hits`: the offsets in the previous word at which a marker starts, lowest first (R133). -/
def hits (c : Codec) (win : Nat) : List Nat :=
  (List.range c.lineWidth).filter (fun o => marker c (slice win o c.markerWidth))

-- The elastic buffer

/-- `is_filler(r, c)` for a record or slot with this tag and data (R196). -/
def isFiller (t : Tag) (d : Payload) : Codec → Bool
  | .c8b10b => t == .control && d.toNat % 256 == 0x1C
  | .c128b130b => t == .control && d.toNat % 256 == 0xAA

/-- `gray(x)` (R18). -/
def gray (x : Nat) : Nat := x ^^^ (x / 2)

/-- `ungray(g)` on `n` bits: bit `i` is the xor of the bits `n-1` down to `i` of `g` (R18). -/
def ungray : Nat → Nat → Nat
  | 0, _ => 0
  | n + 1, g => g ^^^ ungray n (g / 2)

/-- `(a - b) mod 2^n` (R18). -/
def subMod (n a b : Nat) : Nat := (a + (2 ^ n - b % 2 ^ n)) % 2 ^ n

/-- `sample(x)` (R226): `now` where the owner has not stepped since the sampler's last step, else any
mixture of `old` and `now`, bit by bit; a bit of `mask` that is 1 takes the old value. -/
def sampleNat (moved : Bool) (mask old now : Nat) : Nat :=
  if moved then now ^^^ ((now ^^^ old) &&& mask) else now

/-- `sample(x)` of a one-bit signal (R226). -/
def sampleBit (moved takeOld old now : Bool) : Bool := if moved && takeOld then old else now

-- The scrambler

/-- `lfsr_step(c, l)`: the next state and the keystream bit, the register's top bit (R248). -/
def lfsrStep (p : ScrParams) (l : Nat) : Nat × Bool :=
  let out := l / 2 ^ (p.len - 1) % 2 == 1
  let shifted := 2 * l % 2 ^ p.len
  (if out then shifted ^^^ p.poly else shifted, out)

/-- `ks(c, l, n)`: `n` shifts, the first output in bit 0 (R249). -/
def keystream (p : ScrParams) : Nat → Nat → Nat × Nat
  | 0, l => (l, 0)
  | n + 1, l =>
    let (l1, o) := lfsrStep p l
    let (l2, v) := keystream p n l1
    (l2, (if o then 1 else 0) + 2 * v)

/-- The LFSR after one symbol and that symbol's keystream, from the register's low `SCR_LEN` bits
(R249, R255 and R261 openings). -/
def symbolKey (c : Params) (k : Codec) (l : Lfsr) : Lfsr × Payload :=
  let r := keystream (c.scr k) k.dataWidth (l.toNat % 2 ^ (c.scr k).len)
  (BitVec.ofNat 23 r.1, BitVec.ofNat 128 r.2)

/-- `OST.STEP`: `byp`, the new `aft` and the new `cnt` (R254). -/
def track (aft : Bool) (cnt : Nat) (r : SymRec) : Bool × Bool × Nat :=
  if r.tag = .control ∧ r.byte = 0xBC then (false, true, 0)
  else if aft then
    if r.tag = .data ∨ r.tag = .error ∨ (r.tag = .control ∧ (r.byte = 0xF7 ∨ r.byte = 0xFC)) then
      (true, false, 14)
    else (false, false, 0)
  else if 0 < cnt then (true, false, cnt - 1)
  else (false, false, 0)

end Sys2Proof
end

