-- ==== Sys2Proof/Syntax.lean ====
section
/-! DEFINITION. The operation set (`spec/30_encoding.md` rule R118, `spec/opcode_table.json`): one
constructor for each of the 82 rows, in the table's order. R2 reads "operation" where a processor's
manual says "instruction". An operand is what the bits of the row's own format carry (R90); everything
else an operation reads, it reads from the registers. -/

namespace Sys2Proof

/-- The operations of the engine, one constructor for each row of the operation table (R118). -/
inductive Instr where
  -- bridge
  | cdcSync (agent : Agent)
  | cdcReq (cmd : BitVec 4)
  | cdcAck
  | rxcmdRealign
  | rxcmdFlush
  | rxcmdDecreset (codec : Codec)
  -- aligner
  | alReset
  | alStepAcquire (raw : Block)
  | alStepHit (raw : Block)
  | alStepMiss (raw : Block)
  | alStepNone (raw : Block)
  | alStepTimeout
  -- decoder
  | dec10Ok (v : Line10)
  | dec10Disp (v : Line10)
  | dec10Code (v : Line10)
  | dec10Acq (v : Line10)
  | decReset
  | decBubble
  | dec130D (payload : Payload)
  | dec130Os (payload : Payload)
  | dec130Badsync00 (payload : Payload)
  | dec130Badsync11 (payload : Payload)
  -- elastic buffer
  | ebFlushw
  | ebDelete (r : SymRec)
  | ebOverflow (r : SymRec)
  | ebWrite (r : SymRec)
  | ebIdlew
  | ebFlushr
  | ebPrime
  | ebStart
  | ebUnderflow
  | ebInsert (head : Slot)
  | ebRead (head : Slot)
  -- scrambler and descrambler
  | scrStop (p : ScrInst)
  | scrStart (p : ScrInst)
  | scrBubble (p : ScrInst)
  | ostStep (p : ScrInst) (r : SymRec)
  | scr8Com (p : ScrInst) (r : SymRec)
  | scr8Skp (p : ScrInst) (r : SymRec)
  | scr8Ctl (p : ScrInst) (r : SymRec)
  | scr8Bypass (p : ScrInst) (r : SymRec)
  | scr8Data (p : ScrInst) (r : SymRec)
  | scr8Err (p : ScrInst) (r : SymRec)
  | scr128Data (p : ScrInst) (r : SymRec)
  | scr128Eieos (p : ScrInst) (r : SymRec)
  | scr128Skp (p : ScrInst) (r : SymRec)
  | scr128Os (p : ScrInst) (r : SymRec)
  | scr128Err (p : ScrInst) (r : SymRec)
  -- encoder
  | encReset
  | enc10D (b : Byte)
  | enc10K (b : Byte)
  | enc10Kinv (b : Byte)
  | encBubble
  | enc130D (d : Payload)
  | enc130Os (d : Payload)
  -- idle and detect
  | idlDebounce
  | rxdDone
  | rxdClear
  | rxdStart
  -- controller
  | ctlHardreset
  | ctlTransitionClose
  | ctlTransitionDone
  | ctlResetReq
  | ctlResetDone
  | ctlDetectOk
  | ctlAlignOk
  | ctlConfigureOk
  | ctlPowerdown
  | ctlIdleAck
  | ctlPowerup
  | ctlIdleChange
  | ctlRate (rate : RateCode)
  | ctlFatal (cause : Cause)
  | ctlTimeout
  | ctlTick (before : CtlState)
  | ctlMonitor
  | ctlCodec
  | ctlStay
  -- adapter
  | paRxmap (valid : Bool) (r : SymRec)
  | paStatus
  | paTxmap (data : Payload) (datak : Bool) (elecidle : Bool)
  | paCmdmap (pins : BitVec 7)
deriving DecidableEq, Repr

end Sys2Proof
end

