-- ==== Sys2Proof/WellFormed.lean ====
section
/-! DEFINITION. Which terms of `Instr` are operations the table has: the patterns that a row's format
fixes, and the shape of a symbol record. What depends on registers (the dispatch conditions of R119) is in
`Machine/Select.lean`. -/

namespace Sys2Proof

/-- The error kind is NONE unless the tag is ERROR, and is not NONE if it is (R96, R97). -/
def kindFits (t : Tag) (k : Ek) : Bool := (t == .error) == (k != .none)

/-- A record some stage can produce: its kind fits its tag, and it is not marked both as repeated and as
following a dropped filler (R342 corner cases). -/
def SymRec.ok (r : SymRec) : Bool := kindFits r.tag r.ek && !(r.dl && r.ins)

/-- A record the given scrambler instance can be fed: the adapter's records are never ERROR and carry no
buffer mark (R250, R343). -/
def SymRec.fedTo (p : ScrInst) (r : SymRec) : Bool :=
  r.ok && (p == .dsc || (r.tag != .error && !r.dl && !r.ins))

/-- A filler under one of the two codecs (R196). -/
def fillerInSomeCodec (t : Tag) (d : Payload) : Bool := isFiller t d .c8b10b || isFiller t d .c128b130b

/-- The word is a code word of the column of this disparity (R164). -/
def inColumn (rd : Rd) (v : Line10) : Bool := (Code10.decCol rd v).isSome

/-- The conditions a row's own format puts on an operation's operands. -/
def Instr.wellFormed : Instr → Bool
  | .cdcSync _ => true
  | .cdcReq _ => true
  | .cdcAck => true
  | .rxcmdRealign => true
  | .rxcmdFlush => true
  | .rxcmdDecreset _ => true
  | .alReset => true
  | .alStepAcquire _ => true
  | .alStepHit _ => true
  | .alStepMiss _ => true
  | .alStepNone _ => true
  | .alStepTimeout => true
  | .dec10Ok v => inColumn .minus v || inColumn .plus v
  | .dec10Disp v => inColumn .minus v != inColumn .plus v
  | .dec10Code v => !inColumn .minus v && !inColumn .plus v
  | .dec10Acq _ => true
  | .decReset => true
  | .decBubble => true
  | .dec130D _ => true
  | .dec130Os _ => true
  | .dec130Badsync00 _ => true
  | .dec130Badsync11 _ => true
  | .ebFlushw => true
  | .ebDelete r => r.ok && fillerInSomeCodec r.tag r.data
  | .ebOverflow r => r.ok
  | .ebWrite r => r.ok
  | .ebIdlew => true
  | .ebFlushr => true
  | .ebPrime => true
  | .ebStart => true
  | .ebUnderflow => true
  | .ebInsert h => kindFits h.tag h.ek && fillerInSomeCodec h.tag h.data
  | .ebRead h => kindFits h.tag h.ek
  | .scrStop _ => true
  | .scrStart _ => true
  | .scrBubble _ => true
  | .ostStep p r => r.fedTo p
  | .scr8Com p r => r.fedTo p && r.tag == .control && r.byte == 0xBC
  | .scr8Skp p r => r.fedTo p && r.tag == .control && r.byte == 0x1C
  | .scr8Ctl p r => r.fedTo p && r.tag == .control && r.byte != 0xBC && r.byte != 0x1C
  | .scr8Bypass p r => r.fedTo p && r.tag == .data
  | .scr8Data p r => r.fedTo p && r.tag == .data
  | .scr8Err p r => r.fedTo p && r.tag == .error
  | .scr128Data p r => r.fedTo p && r.tag == .data
  | .scr128Eieos p r => r.fedTo p && r.tag == .control && r.data == eieosPay
  | .scr128Skp p r => r.fedTo p && r.tag == .control && r.data != eieosPay && r.byte == 0xAA
  | .scr128Os p r => r.fedTo p && r.tag == .control && r.data != eieosPay && r.byte != 0xAA
  | .scr128Err p r => r.fedTo p && r.tag == .error
  | .encReset => true
  | .enc10D _ => true
  | .enc10K b => Code10.isK b
  | .enc10Kinv b => !Code10.isK b
  | .encBubble => true
  | .enc130D _ => true
  | .enc130Os _ => true
  | .idlDebounce => true
  | .rxdDone => true
  | .rxdClear => true
  | .rxdStart => true
  | .ctlHardreset => true
  | .ctlTransitionClose => true
  | .ctlTransitionDone => true
  | .ctlResetReq => true
  | .ctlResetDone => true
  | .ctlDetectOk => true
  | .ctlAlignOk => true
  | .ctlConfigureOk => true
  | .ctlPowerdown => true
  | .ctlIdleAck => true
  | .ctlPowerup => true
  | .ctlIdleChange => true
  | .ctlRate _ => true
  | .ctlFatal c => c == .alignmentLost || c == .bufferOverflow || c == .bufferUnderflow || c == .scramblerDesync
  | .ctlTimeout => true
  | .ctlTick _ => true
  | .ctlMonitor => true
  | .ctlCodec => true
  | .ctlStay => true
  -- without its valid bit the record is not read (R341)
  | .paRxmap v r => !v || r.ok
  | .paStatus => true
  | .paTxmap _ _ _ => true
  | .paCmdmap _ => true

end Sys2Proof
end

