-- ==== Sys2Proof/Decode.lean ====
section
/-! DEFINITION. The decoder and, after it, the encoder. The engine has no instruction word (R90): the
operation table gives a row a format, and most formats select no row by their bits (R118). An OPERATION
WORD is therefore the model's own (log entry 2): twenty bytes, least significant first, the bits of the
row's format in bits 151:0, numbered as the table numbers them, and one more than the row's number in bits
159:152. A shorter word, or one whose top byte is 0, names no row: it is a BARE PATTERN, and it is read by
the `match` and `mask` of the table's rows. -/

namespace Sys2Proof

/-- Why a word is no operation. -/
inductive DecodeError where
  /-- the top byte names no row of the table -/
  | unknownRow
  /-- a bare pattern that no row's `match` and `mask` admit -/
  | noPattern
  /-- the bits the row's format fixes are not as the row has them -/
  | wrongPattern
  /-- a bit outside the operand is set -/
  | strayBits
  /-- a reserved code: tag 3, error kind 3, cause 7 or state 7 (R115) -/
  | reservedCode
  /-- the operands are not the row's (`Instr.wellFormed`) -/
  | illFormed
deriving DecidableEq, Repr

/-- One bit as a number. -/
def bit (b : Bool) : Nat := if b then 1 else 0

/-- The agent bit of `CDC.SYNC`. -/
def Agent.num : Agent → Nat
  | .rx => 0
  | .core => 1

/-- The instance bit of a scrambler operation. -/
def ScrInst.num : ScrInst → Nat
  | .scr => 0
  | .dsc => 1

namespace Decoding

/-- Answer the operation if its operands are the row's. -/
def keep (i : Instr) : Except DecodeError Instr := if i.wellFormed then .ok i else .error .illFormed

/-- Answer the operation if no bit is left over. -/
def done (rest : Nat) (i : Instr) : Except DecodeError Instr :=
  if rest = 0 then keep i else .error .strayBits

/-- Answer the operation if the word is exactly its pattern. -/
def exact (pattern x : Nat) (i : Instr) : Except DecodeError Instr :=
  if x = pattern then keep i else .error .wrongPattern

/-- Answer the operation if the word is one of an `n`-bit format and the bits that the row examines are as
its match has them; the other bits of the format are not examined (R118). -/
def examined (n mask value x : Nat) (i : Instr) : Except DecodeError Instr :=
  if x / 2 ^ n ≠ 0 then .error .strayBits
  else if x &&& mask = value then keep i
  else .error .wrongPattern

/-- Read a last one-bit operand. -/
def two (x : Nat) (i0 i1 : Instr) : Except DecodeError Instr :=
  if x = 0 then keep i0 else done (x / 2) i1

/-- Read a last scrambler-instance bit. -/
def withInst (x : Nat) (f : ScrInst → Instr) : Except DecodeError Instr := two x (f .scr) (f .dsc)

/-- Read two last flag bits. -/
def withFlags (x : Nat) (f : Bool → Bool → Instr) : Except DecodeError Instr :=
  done (x / 4) (f (x % 2 == 1) (x / 2 % 2 == 1))

/-- The tag of a code (R95). -/
def tagOf : Nat → Option Tag
  | 0 => some .data
  | 1 => some .control
  | 2 => some .error
  | _ => none

/-- The error kind of a code (R97). -/
def ekOf : Nat → Option Ek
  | 0 => some .none
  | 1 => some .code
  | 2 => some .disp
  | _ => none

/-- The cause of a code (R106). -/
def causeOf : Nat → Option Cause
  | 0 => some .none
  | 1 => some .alignmentLost
  | 2 => some .codecDecodeError
  | 3 => some .bufferOverflow
  | 4 => some .bufferUnderflow
  | 5 => some .scramblerDesync
  | 6 => some .commandTimeout
  | _ => none

/-- The controller state of a code (R105). -/
def stateOf : Nat → Option CtlState
  | 0 => some .reset
  | 1 => some .detect
  | 2 => some .align
  | 3 => some .configure
  | 4 => some .active
  | 5 => some .idle
  | 6 => some .transition
  | _ => none

/-- Read a cause code. -/
def withCause (x : Nat) (f : Cause → Instr) : Except DecodeError Instr :=
  match causeOf x with
  | some c => keep (f c)
  | none => .error .reservedCode

/-- Read a controller-state code. -/
def withState (x : Nat) (f : CtlState → Instr) : Except DecodeError Instr :=
  match stateOf x with
  | some q => keep (f q)
  | none => .error .reservedCode

/-- Read a symbol record in format `SYMREC`, bits 133:0 (R96). -/
def withRec (x : Nat) (f : SymRec → Except DecodeError Instr) : Except DecodeError Instr :=
  match tagOf (x / 2 ^ 128 % 4), ekOf (x / 2 ^ 130 % 4) with
  | some t, some k =>
    f { data := BitVec.ofNat 128 x, tag := t, ek := k,
        dl := x / 2 ^ 132 % 2 == 1, ins := x / 2 ^ 133 % 2 == 1 }
  | _, _ => .error .reservedCode

/-- Read a slot in format `SLOT`, bits 132:0 (R98). -/
def withSlot (x : Nat) (f : Slot → Except DecodeError Instr) : Except DecodeError Instr :=
  match tagOf (x / 2 ^ 128 % 4), ekOf (x / 2 ^ 130 % 4) with
  | some t, some k =>
    f { data := BitVec.ofNat 128 x, tag := t, ek := k, dl := x / 2 ^ 132 % 2 == 1 }
  | _, _ => .error .reservedCode

/-- Read a record viewed as `SYM9` (the `SCR8` rows): the byte in bits 7:0, `k` in bit 8, then the rest of
the data, the error kind and the two marks; the tag is the row's. -/
def withSym9 (k : Nat) (t : Tag) (x : Nat) (f : SymRec → Except DecodeError Instr) :
    Except DecodeError Instr :=
  if x / 2 ^ 8 % 2 = k then
    match ekOf (x / 2 ^ 129 % 4) with
    | some e =>
      f { data := BitVec.ofNat 128 (x % 2 ^ 8 + 2 ^ 8 * (x / 2 ^ 9 % 2 ^ 120)), tag := t, ek := e,
          dl := x / 2 ^ 131 % 2 == 1, ins := x / 2 ^ 132 % 2 == 1 }
    | none => .error .reservedCode
  else .error .wrongPattern

/-- The operation of a row whose format bits are `x`. -/
def row (n x : Nat) : Except DecodeError Instr :=
  match n with
  | 0 => two x (.cdcSync .rx) (.cdcSync .core)
  | 1 => done (x / 16) (.cdcReq (BitVec.ofNat 4 x))
  | 2 => exact 0 x .cdcAck
  | 3 => examined 4 1 1 x .rxcmdRealign
  | 4 => examined 4 2 2 x .rxcmdFlush
  | 5 => examined 4 4 4 x (.rxcmdDecreset (Codec.ofBit (x / 8 % 2 == 1)))
  | 6 => exact 0 x .alReset
  | 7 => done (x / 2 ^ 130) (.alStepAcquire (BitVec.ofNat 130 x))
  | 8 => done (x / 2 ^ 130) (.alStepHit (BitVec.ofNat 130 x))
  | 9 => done (x / 2 ^ 130) (.alStepMiss (BitVec.ofNat 130 x))
  | 10 => done (x / 2 ^ 130) (.alStepNone (BitVec.ofNat 130 x))
  | 11 => exact 0 x .alStepTimeout
  | 12 => done (x / 2 ^ 10) (.dec10Ok (BitVec.ofNat 10 x))
  | 13 => done (x / 2 ^ 10) (.dec10Disp (BitVec.ofNat 10 x))
  | 14 => done (x / 2 ^ 10) (.dec10Code (BitVec.ofNat 10 x))
  | 15 => done (x / 2 ^ 10) (.dec10Acq (BitVec.ofNat 10 x))
  | 16 => exact 0 x .decReset
  | 17 => exact 0 x .decBubble
  | 18 => if x % 4 = 2 then done (x / 2 ^ 130) (.dec130D (BitVec.ofNat 128 (x / 4))) else .error .wrongPattern
  | 19 => if x % 4 = 1 then done (x / 2 ^ 130) (.dec130Os (BitVec.ofNat 128 (x / 4))) else .error .wrongPattern
  | 20 => if x % 4 = 0 then done (x / 2 ^ 130) (.dec130Badsync00 (BitVec.ofNat 128 (x / 4))) else .error .wrongPattern
  | 21 => if x % 4 = 3 then done (x / 2 ^ 130) (.dec130Badsync11 (BitVec.ofNat 128 (x / 4))) else .error .wrongPattern
  | 22 => exact 0 x .ebFlushw
  | 23 => withRec x (fun r => done (x / 2 ^ 134) (.ebDelete r))
  | 24 => withRec x (fun r => done (x / 2 ^ 134) (.ebOverflow r))
  | 25 => withRec x (fun r => done (x / 2 ^ 134) (.ebWrite r))
  | 26 => exact 0 x .ebIdlew
  | 27 => exact 0 x .ebFlushr
  | 28 => exact 0 x .ebPrime
  | 29 => exact 0 x .ebStart
  | 30 => exact 0 x .ebUnderflow
  | 31 => withSlot x (fun h => done (x / 2 ^ 133) (.ebInsert h))
  | 32 => withSlot x (fun h => done (x / 2 ^ 133) (.ebRead h))
  | 33 => two x (.scrStop .scr) (.scrStop .dsc)
  | 34 => two x (.scrStart .scr) (.scrStart .dsc)
  | 35 => two x (.scrBubble .scr) (.scrBubble .dsc)
  | 36 => withRec x (fun r => withInst (x / 2 ^ 134) (fun p => .ostStep p r))
  | 37 => withSym9 1 .control x (fun r => withInst (x / 2 ^ 133) (fun p => .scr8Com p r))
  | 38 => withSym9 1 .control x (fun r => withInst (x / 2 ^ 133) (fun p => .scr8Skp p r))
  | 39 => withSym9 1 .control x (fun r => withInst (x / 2 ^ 133) (fun p => .scr8Ctl p r))
  | 40 => withSym9 0 .data x (fun r => withInst (x / 2 ^ 133) (fun p => .scr8Bypass p r))
  | 41 => withSym9 0 .data x (fun r => withInst (x / 2 ^ 133) (fun p => .scr8Data p r))
  | 42 => withRec x (fun r => withInst (x / 2 ^ 134) (fun p => .scr8Err p r))
  | 43 => withRec x (fun r => withInst (x / 2 ^ 134) (fun p => .scr128Data p r))
  | 44 => withRec x (fun r => withInst (x / 2 ^ 134) (fun p => .scr128Eieos p r))
  | 45 => withRec x (fun r => withInst (x / 2 ^ 134) (fun p => .scr128Skp p r))
  | 46 => withRec x (fun r => withInst (x / 2 ^ 134) (fun p => .scr128Os p r))
  | 47 => withRec x (fun r => withInst (x / 2 ^ 134) (fun p => .scr128Err p r))
  | 48 => exact 0 x .encReset
  | 49 => done (x / 256) (.enc10D (BitVec.ofNat 8 x))
  | 50 => if x / 256 = 1 then keep (.enc10K (BitVec.ofNat 8 x)) else .error .wrongPattern
  | 51 => if x / 256 = 1 then keep (.enc10Kinv (BitVec.ofNat 8 x)) else .error .wrongPattern
  | 52 => exact 0 x .encBubble
  | 53 => done (x / 2 ^ 128) (.enc130D (BitVec.ofNat 128 x))
  | 54 => done (x / 2 ^ 128) (.enc130Os (BitVec.ofNat 128 x))
  | 55 => exact 0 x .idlDebounce
  | 56 => exact 0 x .rxdDone
  | 57 => examined 7 1 0 x .rxdClear
  | 58 => examined 7 0x43 0x43 x .rxdStart
  | 59 => examined 7 0x40 0 x .ctlHardreset
  | 60 => exact 6 x .ctlTransitionClose
  | 61 => exact 6 x .ctlTransitionDone
  | 62 => exact 0 x .ctlResetReq
  | 63 => exact 0 x .ctlResetDone
  | 64 => exact 1 x .ctlDetectOk
  | 65 => exact 2 x .ctlAlignOk
  | 66 => exact 3 x .ctlConfigureOk
  | 67 => exact 4 x .ctlPowerdown
  | 68 => exact 5 x .ctlIdleAck
  | 69 => exact 5 x .ctlPowerup
  | 70 => exact 5 x .ctlIdleChange
  | 71 => examined 7 0x40 0x40 x (.ctlRate (BitVec.ofNat 2 (x / 16)))
  | 72 => withCause x (fun c => .ctlFatal c)
  | 73 => exact 6 x .ctlTimeout
  | 74 => withState x (fun q => .ctlTick q)
  | 75 => exact 0 x .ctlMonitor
  | 76 => exact 0 x .ctlCodec
  | 77 => exact 0 x .ctlStay
  | 78 => withRec x (fun r => two (x / 2 ^ 134) (.paRxmap false r) (.paRxmap true r))
  | 79 => exact 0 x .paStatus
  | 80 => withFlags (x / 2 ^ 128) (fun k e => .paTxmap (BitVec.ofNat 128 x) k e)
  | 81 => done (x / 128) (.paCmdmap (BitVec.ofNat 7 x))
  | _ => .error .unknownRow

/-- A row whose format fixes at least one bit (`opcode_table.json`): the row, the bits its pattern spans and
the bits its format spans, both in whole bytes, the mask, the match, and the bits above the pattern that the
row's operand has: the tag CONTROL in the two block rows whose pattern is over the data alone. -/
structure BarePattern where
  row : Nat
  span : Nat
  full : Nat
  mask : Nat
  value : Nat
  above : Nat
deriving DecidableEq, Repr

/-- Those rows, the row with most fixed bits first and in the table's order among equals. -/
def barePatterns : List BarePattern :=
  [ ⟨44, 128, 128, 0xffffffffffffffffffffffffffffffff, 0xff00ff00ff00ff00ff00ff00ff00ff00, 2 ^ 128⟩,
    ⟨37, 16, 16, 0x1ff, 0x1bc, 0⟩,
    ⟨38, 16, 16, 0x1ff, 0x11c, 0⟩,
    ⟨45, 8, 128, 0xff, 0xaa, 2 ^ 128⟩,
    ⟨58, 8, 8, 0x43, 0x43, 0⟩,
    ⟨60, 8, 8, 0x7, 0x6, 0⟩,
    ⟨61, 8, 8, 0x7, 0x6, 0⟩,
    ⟨62, 8, 8, 0x7, 0x0, 0⟩,
    ⟨63, 8, 8, 0x7, 0x0, 0⟩,
    ⟨64, 8, 8, 0x7, 0x1, 0⟩,
    ⟨65, 8, 8, 0x7, 0x2, 0⟩,
    ⟨66, 8, 8, 0x7, 0x3, 0⟩,
    ⟨67, 8, 8, 0x7, 0x4, 0⟩,
    ⟨68, 8, 8, 0x7, 0x5, 0⟩,
    ⟨69, 8, 8, 0x7, 0x5, 0⟩,
    ⟨70, 8, 8, 0x7, 0x5, 0⟩,
    ⟨73, 8, 8, 0x7, 0x6, 0⟩,
    ⟨18, 8, 136, 0x3, 0x2, 0⟩,
    ⟨19, 8, 136, 0x3, 0x1, 0⟩,
    ⟨20, 8, 136, 0x3, 0x0, 0⟩,
    ⟨21, 8, 136, 0x3, 0x3, 0⟩,
    ⟨3, 8, 8, 0x1, 0x1, 0⟩,
    ⟨4, 8, 8, 0x2, 0x2, 0⟩,
    ⟨5, 8, 8, 0x4, 0x4, 0⟩,
    ⟨39, 16, 16, 0x100, 0x100, 0⟩,
    ⟨40, 16, 16, 0x100, 0x0, 0⟩,
    ⟨41, 16, 16, 0x100, 0x0, 0⟩,
    ⟨49, 16, 16, 0x100, 0x0, 0⟩,
    ⟨50, 16, 16, 0x100, 0x100, 0⟩,
    ⟨51, 16, 16, 0x100, 0x100, 0⟩,
    ⟨57, 8, 8, 0x1, 0x0, 0⟩,
    ⟨59, 8, 8, 0x40, 0x0, 0⟩,
    ⟨71, 8, 8, 0x40, 0x40, 0⟩ ]

/-- The first row of the list that admits the bare pattern `w` of `nbits` bits. -/
def bare (nbits w : Nat) : List BarePattern → Except DecodeError Instr
  | [] => .error .noPattern
  | p :: rest =>
    if (nbits = p.span ∨ nbits = p.full) ∧ w &&& p.mask = p.value then
      match row p.row (w + p.above) with
      | .ok i => .ok i
      | .error _ => bare nbits w rest
    else bare nbits w rest

end Decoding

/-- The number that bytes stand for, the first byte least significant. -/
def ofBytes : List Byte → Nat
  | [] => 0
  | b :: bs => b.toNat + 256 * ofBytes bs

/-- The `n` low bytes of a number, least significant first. -/
def toBytes : Nat → Nat → List Byte
  | 0, _ => []
  | n + 1, w => BitVec.ofNat 8 w :: toBytes n (w / 256)

/-- The operation of a word of `nbits` bits. -/
def decodeWord (nbits w : Nat) : Except DecodeError Instr :=
  if nbits = 160 ∧ w / 2 ^ 152 ≠ 0 then Decoding.row (w / 2 ^ 152 - 1) (w % 2 ^ 152)
  else Decoding.bare nbits w Decoding.barePatterns

/-- The decoder: total on any bytes, rejecting by name. -/
def decode (bs : List Byte) : Except DecodeError Instr := decodeWord (8 * bs.length) (ofBytes bs)

/-- What the decoder reads from a row's word of `nbits` bits, numbered as the table numbers them. -/
def decodeTableWord (nbits w : Nat) : Option Instr :=
  match decode (toBytes ((nbits + 7) / 8) w) with
  | .ok i => some i
  | .error _ => none

-- The encoder

/-- A record in format `SYMREC` (R96). -/
def SymRec.bits (r : SymRec) : Nat :=
  r.data.toNat + 2 ^ 128 * (r.tag.num + 4 * (r.ek.num + 4 * (bit r.dl + 2 * bit r.ins)))

/-- A slot in format `SLOT` (R98). -/
def Slot.bits (h : Slot) : Nat := h.data.toNat + 2 ^ 128 * (h.tag.num + 4 * (h.ek.num + 4 * bit h.dl))

/-- A record viewed as `SYM9`, its other fields above the nine bits. -/
def SymRec.sym9Bits (k : Nat) (r : SymRec) : Nat :=
  r.data.toNat % 2 ^ 8 + 2 ^ 8 * (k + 2 * (r.data.toNat / 2 ^ 8 +
    2 ^ 120 * (r.ek.num + 4 * (bit r.dl + 2 * bit r.ins))))

/-- The number of an operation's row in the table, from 0. -/
def Instr.rowNumber : Instr → Nat
  | .cdcSync _ => 0
  | .cdcReq _ => 1
  | .cdcAck => 2
  | .rxcmdRealign => 3
  | .rxcmdFlush => 4
  | .rxcmdDecreset _ => 5
  | .alReset => 6
  | .alStepAcquire _ => 7
  | .alStepHit _ => 8
  | .alStepMiss _ => 9
  | .alStepNone _ => 10
  | .alStepTimeout => 11
  | .dec10Ok _ => 12
  | .dec10Disp _ => 13
  | .dec10Code _ => 14
  | .dec10Acq _ => 15
  | .decReset => 16
  | .decBubble => 17
  | .dec130D _ => 18
  | .dec130Os _ => 19
  | .dec130Badsync00 _ => 20
  | .dec130Badsync11 _ => 21
  | .ebFlushw => 22
  | .ebDelete _ => 23
  | .ebOverflow _ => 24
  | .ebWrite _ => 25
  | .ebIdlew => 26
  | .ebFlushr => 27
  | .ebPrime => 28
  | .ebStart => 29
  | .ebUnderflow => 30
  | .ebInsert _ => 31
  | .ebRead _ => 32
  | .scrStop _ => 33
  | .scrStart _ => 34
  | .scrBubble _ => 35
  | .ostStep _ _ => 36
  | .scr8Com _ _ => 37
  | .scr8Skp _ _ => 38
  | .scr8Ctl _ _ => 39
  | .scr8Bypass _ _ => 40
  | .scr8Data _ _ => 41
  | .scr8Err _ _ => 42
  | .scr128Data _ _ => 43
  | .scr128Eieos _ _ => 44
  | .scr128Skp _ _ => 45
  | .scr128Os _ _ => 46
  | .scr128Err _ _ => 47
  | .encReset => 48
  | .enc10D _ => 49
  | .enc10K _ => 50
  | .enc10Kinv _ => 51
  | .encBubble => 52
  | .enc130D _ => 53
  | .enc130Os _ => 54
  | .idlDebounce => 55
  | .rxdDone => 56
  | .rxdClear => 57
  | .rxdStart => 58
  | .ctlHardreset => 59
  | .ctlTransitionClose => 60
  | .ctlTransitionDone => 61
  | .ctlResetReq => 62
  | .ctlResetDone => 63
  | .ctlDetectOk => 64
  | .ctlAlignOk => 65
  | .ctlConfigureOk => 66
  | .ctlPowerdown => 67
  | .ctlIdleAck => 68
  | .ctlPowerup => 69
  | .ctlIdleChange => 70
  | .ctlRate _ => 71
  | .ctlFatal _ => 72
  | .ctlTimeout => 73
  | .ctlTick _ => 74
  | .ctlMonitor => 75
  | .ctlCodec => 76
  | .ctlStay => 77
  | .paRxmap _ _ => 78
  | .paStatus => 79
  | .paTxmap _ _ _ => 80
  | .paCmdmap _ => 81

/-- The bits of an operation's own format. -/
def Instr.formatBits : Instr → Nat
  | .cdcSync a => a.num
  | .cdcReq cmd => cmd.toNat
  | .cdcAck => 0
  | .rxcmdRealign => 1
  | .rxcmdFlush => 2
  | .rxcmdDecreset c => 4 + 8 * c.num
  | .alReset => 0
  | .alStepAcquire raw => raw.toNat
  | .alStepHit raw => raw.toNat
  | .alStepMiss raw => raw.toNat
  | .alStepNone raw => raw.toNat
  | .alStepTimeout => 0
  | .dec10Ok v => v.toNat
  | .dec10Disp v => v.toNat
  | .dec10Code v => v.toNat
  | .dec10Acq v => v.toNat
  | .decReset => 0
  | .decBubble => 0
  | .dec130D payload => 4 * payload.toNat + 2
  | .dec130Os payload => 4 * payload.toNat + 1
  | .dec130Badsync00 payload => 4 * payload.toNat + 0
  | .dec130Badsync11 payload => 4 * payload.toNat + 3
  | .ebFlushw => 0
  | .ebDelete r => r.bits
  | .ebOverflow r => r.bits
  | .ebWrite r => r.bits
  | .ebIdlew => 0
  | .ebFlushr => 0
  | .ebPrime => 0
  | .ebStart => 0
  | .ebUnderflow => 0
  | .ebInsert h => h.bits
  | .ebRead h => h.bits
  | .scrStop p => p.num
  | .scrStart p => p.num
  | .scrBubble p => p.num
  | .ostStep p r => r.bits + 2 ^ 134 * p.num
  | .scr8Com p r => r.sym9Bits 1 + 2 ^ 133 * p.num
  | .scr8Skp p r => r.sym9Bits 1 + 2 ^ 133 * p.num
  | .scr8Ctl p r => r.sym9Bits 1 + 2 ^ 133 * p.num
  | .scr8Bypass p r => r.sym9Bits 0 + 2 ^ 133 * p.num
  | .scr8Data p r => r.sym9Bits 0 + 2 ^ 133 * p.num
  | .scr8Err p r => r.bits + 2 ^ 134 * p.num
  | .scr128Data p r => r.bits + 2 ^ 134 * p.num
  | .scr128Eieos p r => r.bits + 2 ^ 134 * p.num
  | .scr128Skp p r => r.bits + 2 ^ 134 * p.num
  | .scr128Os p r => r.bits + 2 ^ 134 * p.num
  | .scr128Err p r => r.bits + 2 ^ 134 * p.num
  | .encReset => 0
  | .enc10D b => b.toNat
  | .enc10K b => b.toNat + 256
  | .enc10Kinv b => b.toNat + 256
  | .encBubble => 0
  | .enc130D d => d.toNat
  | .enc130Os d => d.toNat
  | .idlDebounce => 0
  | .rxdDone => 0
  | .rxdClear => 0
  | .rxdStart => 0x43
  | .ctlHardreset => 0
  | .ctlTransitionClose => 6
  | .ctlTransitionDone => 6
  | .ctlResetReq => 0
  | .ctlResetDone => 0
  | .ctlDetectOk => 1
  | .ctlAlignOk => 2
  | .ctlConfigureOk => 3
  | .ctlPowerdown => 4
  | .ctlIdleAck => 5
  | .ctlPowerup => 5
  | .ctlIdleChange => 5
  | .ctlRate r => 0x40 + 16 * r.toNat
  | .ctlFatal c => c.num
  | .ctlTimeout => 6
  | .ctlTick q => q.num
  | .ctlMonitor => 0
  | .ctlCodec => 0
  | .ctlStay => 0
  | .paRxmap v r => r.bits + 2 ^ 134 * bit v
  | .paStatus => 0
  | .paTxmap d k e => d.toNat + 2 ^ 128 * (bit k + 2 * bit e)
  | .paCmdmap w => w.toNat

/-- The operation word, 160 bits (log entry 2). -/
def encode (i : Instr) : Nat := i.formatBits + 2 ^ 152 * (i.rowNumber + 1)

end Sys2Proof
end

