-- ==== Sys2Proof/Machine/State.lean ====
section
/-! DEFINITION. The state of the engine as plain data: every register of `spec/10_state.md` rules R26 to
R39, the slot array, and the model's own fields (the configuration, the wires and the environment), each
with the rule that names it. Then the two reason types and `State.reset`. -/

namespace Sys2Proof.Machine

/-- The RXCTL channel's registers of the `rx_clk` domain (R26). -/
structure CdcRx where
  reqR1 : Bool
  reqR2 : Bool
  ack : Bool
deriving DecidableEq, Repr

/-- Alignment State (R27). `conf = 0` means that there is no hypothesis. -/
structure Aligner where
  prev : Block
  offset : Nat
  conf : Nat
  locked : Bool
  since : Nat
  outSym : Block
  outValid : Bool
deriving DecidableEq, Repr

/-- The decoder's registers (R28). -/
structure Decoder where
  rd : Rd
  rdKnown : Bool
  out : SymRec
  outValid : Bool
deriving DecidableEq, Repr

/-- The elastic buffer's write side (R29); the slot array is `State.mem`. -/
structure WriteSide where
  wptr : Nat
  rgrayW1 : Nat
  rgrayW2 : Nat
  ovf : Bool
  delPending : Bool
deriving DecidableEq, Repr

/-- The synchroniser registers of the `core_clk` domain, which no reset reaches (R31). -/
structure Sync where
  ackC1 : Bool
  ackC2 : Bool
  wgrayC1 : Nat
  wgrayC2 : Nat
  lockedC1 : Bool
  lockedC2 : Bool
  ovfC1 : Bool
  ovfC2 : Bool
  sdC1 : Bool
  sdC2 : Bool
deriving DecidableEq, Repr

/-- The controller's own registers, `ctl.*` (R32). -/
structure Ctl where
  state : CtlState
  timer : Nat
  cause : Cause
  causeIsRate : Bool
  rxCfgDone : Bool
  errRun : Nat
  lossRun : Nat
  phyStatus : Bool
  idleDone : Bool
deriving DecidableEq, Repr

/-- Link Configuration, `lc.*` (R32, R33). -/
structure LinkConfig where
  rate : RateCode
  power : PowerCode
  codec : Codec
  pendRate : RateCode
  errCause : Cause
deriving DecidableEq, Repr

/-- The controller's half of the RXCTL channel: `cdc.req` and `cdc.cmd` (R32, R101). -/
structure CdcCore where
  req : Bool
  cmd : BitVec 4
deriving DecidableEq, Repr

/-- The signal-detect debounce registers (R34). -/
structure Idle where
  cnt : Nat
  present : Bool
deriving DecidableEq, Repr

/-- The elastic buffer's read side (R35). -/
structure ReadSide where
  rptr : Nat
  rdState : RdState
  unf : Bool
  out : SymRec
  outValid : Bool
deriving DecidableEq, Repr

/-- One scrambler instance with its ordered-set tracker (R36). -/
structure Scrambler where
  lfsr : Lfsr
  run : Bool
  aft : Bool
  cnt : Nat
  out : SymRec
  outValid : Bool
deriving DecidableEq, Repr

/-- The encoder's registers (R37). -/
structure Encoder where
  rd : Rd
  outWord : Block
  outValid : Bool
  kerr : Bool
deriving DecidableEq, Repr

/-- The adapter's output registers (R38). -/
structure Adapter where
  rxData : Payload
  rxK : Bool
  rxValid : Bool
  rxStatus : RxStatus
deriving DecidableEq, Repr

/-- The receiver-detect registers (R39). -/
structure RxDetect where
  busy : Bool
  done : Bool
  present : Bool
deriving DecidableEq, Repr

/-- The wires the adapter drives with no register (R343, R344): the MAC's command pins as the controller
and the receiver-detect logic read them, and the transmit record with its valid bit. -/
structure Nets where
  rate : RateCode
  powerdown : PowerCode
  txElecidle : Bool
  txDetectrx : Bool
  txValid : Bool
  txRec : SymRec
deriving DecidableEq, Repr

/-- The inputs present at the current edge (R15), each kept between the edges at which it is supplied, and
the choices of that edge's `sample` reads (R226). The model's own field. -/
structure Inputs where
  rxWord : Block
  rxChoice : RxChoice
  mac : MacPins
  sigdet : Bool
  rxdetDone : Bool
  rxdetPresent : Bool
  coreChoice : CoreChoice
deriving DecidableEq, Repr

/-- `x_prev` of every crossing source (R226, R227): the value it had just before the most recent step of
its owner, and whether that step came after the sampling agent's last step. The model's own field. -/
structure Cross where
  ack : Bool
  wgray : Nat
  locked : Bool
  ovf : Bool
  rxMoved : Bool
  req : Bool
  rgray : Nat
  cmd : BitVec 4
  coreMoved : Bool
  sigdet : Bool
deriving DecidableEq, Repr

/-- The slot array `eb.mem` (R29, R41): index and slot, indices strictly rising, no entry equal to what an
unlisted index reads as. -/
abbrev Memory := List (Nat × Slot)

/-- The indices rise strictly from above `lo`, and no entry is blank. -/
def Memory.wfFrom : Option Nat → Memory → Bool
  | _, [] => true
  | lo, (a, v) :: rest =>
    (match lo with
      | none => true
      | some b => decide (b < a)) && v != Slot.blank && Memory.wfFrom (some a) rest

/-- The canonical form of the slot array. -/
def Memory.wf (m : Memory) : Bool := Memory.wfFrom none m

/-- The whole machine. -/
structure State where
  cfg : Params
  cdcRx : CdcRx
  rcfgCodec : Codec
  al : Aligner
  dec : Decoder
  ebw : WriteSide
  mem : Memory
  sync : Sync
  ctl : Ctl
  lc : LinkConfig
  cdc : CdcCore
  idl : Idle
  ebr : ReadSide
  scr : Scrambler
  dsc : Scrambler
  enc : Encoder
  pa : Adapter
  rxd : RxDetect
  net : Nets
  inp : Inputs
  cross : Cross
  stim : List Stimulus
  tick : Nat
deriving DecidableEq, Repr

-- One named update per component; `Laws/State.lean` says what each leaves alone.

/-- Replace `cdcRx`. -/
def State.setCdcRx (s : State) (v : CdcRx) : State := { s with cdcRx := v }
/-- Replace `rcfgCodec`. -/
def State.setRcfgCodec (s : State) (v : Codec) : State := { s with rcfgCodec := v }
/-- Replace `al`. -/
def State.setAl (s : State) (v : Aligner) : State := { s with al := v }
/-- Replace `dec`. -/
def State.setDec (s : State) (v : Decoder) : State := { s with dec := v }
/-- Replace `ebw`. -/
def State.setEbw (s : State) (v : WriteSide) : State := { s with ebw := v }
/-- Replace `mem`. -/
def State.setMem (s : State) (v : Memory) : State := { s with mem := v }
/-- Replace `sync`. -/
def State.setSync (s : State) (v : Sync) : State := { s with sync := v }
/-- Replace `ctl`. -/
def State.setCtl (s : State) (v : Ctl) : State := { s with ctl := v }
/-- Replace `lc`. -/
def State.setLc (s : State) (v : LinkConfig) : State := { s with lc := v }
/-- Replace `cdc`. -/
def State.setCdc (s : State) (v : CdcCore) : State := { s with cdc := v }
/-- Replace `idl`. -/
def State.setIdl (s : State) (v : Idle) : State := { s with idl := v }
/-- Replace `ebr`. -/
def State.setEbr (s : State) (v : ReadSide) : State := { s with ebr := v }
/-- Replace `scr`. -/
def State.setScr (s : State) (v : Scrambler) : State := { s with scr := v }
/-- Replace `dsc`. -/
def State.setDsc (s : State) (v : Scrambler) : State := { s with dsc := v }
/-- Replace `enc`. -/
def State.setEnc (s : State) (v : Encoder) : State := { s with enc := v }
/-- Replace `pa`. -/
def State.setPa (s : State) (v : Adapter) : State := { s with pa := v }
/-- Replace `rxd`. -/
def State.setRxd (s : State) (v : RxDetect) : State := { s with rxd := v }
/-- Replace `net`. -/
def State.setNet (s : State) (v : Nets) : State := { s with net := v }
/-- Replace `inp`. -/
def State.setInp (s : State) (v : Inputs) : State := { s with inp := v }
/-- Replace `cross`. -/
def State.setCross (s : State) (v : Cross) : State := { s with cross := v }
/-- Replace `stim`. -/
def State.setStim (s : State) (v : List Stimulus) : State := { s with stim := v }
/-- Replace `tick`. -/
def State.setTick (s : State) (v : Nat) : State := { s with tick := v }

/-- The registers of a scrambler instance, `p.*` (R36). -/
def State.inst (s : State) : ScrInst → Scrambler
  | .scr => s.scr
  | .dsc => s.dsc

/-- Replace the registers of a scrambler instance. -/
def State.setInst (s : State) : ScrInst → Scrambler → State
  | .scr, v => s.setScr v
  | .dsc, v => s.setDsc v

/-- Why a step stops with a fault. -/
inductive Fault where
  /-- Raised by the slot-array access of `EB.WRITE` where the index is not below `bufferDepth`, which only
  an illegal depth of 0 allows (R66). Safe: the engine has no such access, and a legal configuration never
  gets here. -/
  | slotOutOfRange
deriving DecidableEq, Repr

/-- Why a step is refused. -/
inductive Refusal where
  /-- Raised by an arm of `exec` that has no meaning yet. Safe: nothing is claimed of it. -/
  | notModelled (mnemonic : String)
  /-- Raised by `step` for a configuration outside the constraints of R10, whose behaviour is not specified
  and which a model should refuse (R423, I7). Safe: nothing is claimed of it. -/
  | illegalConfig
deriving DecidableEq, Repr

/-- All `al.*` zero (R27). -/
def Aligner.init : Aligner :=
  { prev := 0, offset := 0, conf := 0, locked := false, since := 0, outSym := 0, outValid := false }

/-- The controller's registers at power-up and hard reset (R32). -/
def Ctl.init : Ctl :=
  { state := .reset, timer := 0, cause := .none, causeIsRate := false, rxCfgDone := false, errRun := 0,
    lossRun := 0, phyStatus := false, idleDone := false }

/-- Link Configuration at power-up and hard reset (R32). -/
def LinkConfig.init (c : Params) : LinkConfig :=
  { rate := c.lowestRate, power := 0, codec := c.codecOf c.lowestRate, pendRate := 0, errCause := .none }

/-- A scrambler at power-up (R36); the record is unspecified (log entry 4). -/
def Scrambler.init (c : Params) : Scrambler :=
  { lfsr := c.seed (c.codecOf c.lowestRate), run := false, aft := false, cnt := 0, out := .blank,
    outValid := false }

/-- The wires before the first step: all pins 0 (R117). -/
def Nets.init : Nets :=
  { rate := 0, powerdown := 0, txElecidle := false, txDetectrx := false, txValid := false, txRec := .blank }

/-- Before the first line of a stimulus sequence all pins are 0 (R117). -/
def Inputs.init : Inputs :=
  { rxWord := 0, rxChoice := .now, mac := MacPins.zero, sigdet := false, rxdetDone := false,
    rxdetPresent := false, coreChoice := .now }

/-- Power-up (R400) under a configuration: the column "power-up" of R26 to R39. The registers R401 leaves
unspecified hold zeros (log entry 4), and the slot array lists nothing (log entry 5). -/
def State.resetWith (c : Params) : State where
  cfg := c
  cdcRx := { reqR1 := false, reqR2 := false, ack := false }
  rcfgCodec := c.codecOf c.lowestRate
  al := Aligner.init
  dec := { rd := .minus, rdKnown := false, out := .blank, outValid := false }
  ebw := { wptr := 0, rgrayW1 := 0, rgrayW2 := 0, ovf := false, delPending := false }
  mem := []
  sync := { ackC1 := false, ackC2 := false, wgrayC1 := 0, wgrayC2 := 0, lockedC1 := false, lockedC2 := false,
            ovfC1 := false, ovfC2 := false, sdC1 := false, sdC2 := false }
  ctl := Ctl.init
  lc := LinkConfig.init c
  cdc := { req := false, cmd := 0 }
  idl := { cnt := 0, present := false }
  ebr := { rptr := 0, rdState := .held, unf := false, out := .blank, outValid := false }
  scr := Scrambler.init c
  dsc := Scrambler.init c
  enc := { rd := .minus, outWord := 0, outValid := false, kerr := false }
  pa := { rxData := 0, rxK := false, rxValid := false, rxStatus := .ok }
  rxd := { busy := false, done := false, present := false }
  net := Nets.init
  inp := Inputs.init
  cross := { ack := false, wgray := 0, locked := false, ovf := false, rxMoved := false, req := false,
             rgray := 0, cmd := 0, coreMoved := false, sigdet := false }
  stim := []
  tick := 0

/-- The machine right after power-up with the default parameters of R10. -/
def State.reset : State := State.resetWith Params.default

end Sys2Proof.Machine
end

