-- ==== Sys2Proof/Machine/Ops.lean ====
section
/-! DEFINITION. The named operations the meanings share: the slot array, the `sample` reads, the RXCTL
request, and the engine's one escalation path, `takeFatal` (entry) and `finishTransition` (return). -/

namespace Sys2Proof.Machine

-- The slot array (R18, R41, R66)

/-- The slot at an index: what is listed, else `Slot.blank` (log entry 5). -/
def Memory.read : Memory → Nat → Slot
  | [], _ => .blank
  | (a, v) :: rest, i => if a = i then v else Memory.read rest i

/-- The array with slot `i` holding `w`, in canonical form. -/
def Memory.write : Memory → Nat → Slot → Memory
  | [], i, w => if w = Slot.blank then [] else [(i, w)]
  | (a, v) :: rest, i, w =>
    if i < a then (if w = Slot.blank then (a, v) :: rest else (i, w) :: (a, v) :: rest)
    else if i = a then (if w = Slot.blank then rest else (i, w) :: rest)
    else (a, v) :: Memory.write rest i w

/-- `MemRead(i, 1)` (R18). -/
def State.readSlot (s : State) (i : Nat) : Slot := s.mem.read i

/-- `MemWrite(i, 1, v)` (R18): the index is below `bufferDepth` (R66), else there is no such slot. -/
def State.writeSlot (s : State) (i : Nat) (v : Slot) : Host.Outcome State Fault Refusal :=
  if i < s.cfg.bufferDepth then .next (s.setMem (s.mem.write i v)) else .fault .slotOutOfRange

-- `sample` (R226) of each crossing source (R227)

/-- `sample(cdc.req)`, read by agent RX. -/
def State.sampleReq (s : State) : Bool :=
  sampleBit s.cross.coreMoved s.inp.rxChoice.req s.cross.req s.cdc.req

/-- `sample(gray(eb.rptr))`, read by agent RX. -/
def State.sampleRgray (s : State) : Nat :=
  sampleNat s.cross.coreMoved s.inp.rxChoice.rgray s.cross.rgray (gray s.ebr.rptr)

/-- `sample(cdc.cmd)`, read by agent RX (R232). -/
def State.sampleCmd (s : State) : BitVec 4 :=
  if s.cross.coreMoved then s.cdc.cmd ^^^ ((s.cdc.cmd ^^^ s.cross.cmd) &&& s.inp.rxChoice.cmd) else s.cdc.cmd

/-- `sample(cdc.ack)`, read by agent CORE. -/
def State.sampleAck (s : State) : Bool :=
  sampleBit s.cross.rxMoved s.inp.coreChoice.ack s.cross.ack s.cdcRx.ack

/-- `sample(gray(eb.wptr))`, read by agent CORE. -/
def State.sampleWgray (s : State) : Nat :=
  sampleNat s.cross.rxMoved s.inp.coreChoice.wgray s.cross.wgray (gray s.ebw.wptr)

/-- `sample(al.locked)`, read by agent CORE. -/
def State.sampleLocked (s : State) : Bool :=
  sampleBit s.cross.rxMoved s.inp.coreChoice.locked s.cross.locked s.al.locked

/-- `sample(eb.ovf_w)`, read by agent CORE. -/
def State.sampleOvf (s : State) : Bool :=
  sampleBit s.cross.rxMoved s.inp.coreChoice.ovf s.cross.ovf s.ebw.ovf

/-- `sample(ser_sigdet)`, read by agent CORE: an asynchronous input, whose old value is the one it had at
that agent's previous step (R226). -/
def State.sampleSigdet (s : State) : Bool :=
  sampleBit true s.inp.coreChoice.sigdet s.cross.sigdet s.inp.sigdet

-- The RXCTL request (R230)

/-- Raise `cdc.req` and write `cdc.cmd` at the same step. -/
def State.raiseRequest (s : State) (cmd : BitVec 4) : State := s.setCdc { req := true, cmd := cmd }

/-- Lower `cdc.req`; `cdc.cmd` stays. -/
def State.lowerRequest (s : State) : State := s.setCdc { s.cdc with req := false }

-- The controller (R318, R370)

/-- Every controller step without a hard reset first gives `ctl.phy_status` the value 0 (R318). -/
def State.clearPulse (s : State) : State := s.setCtl { s.ctl with phyStatus := false }

/-- The completion pulse (R318). -/
def State.pulse (s : State) : State := s.setCtl { s.ctl with phyStatus := true }

/-- Enter a controller state. -/
def State.enter (s : State) (q : CtlState) : State := s.setCtl { s.ctl with state := q }

/-- TAKING A STRUCTURAL ERROR (R308, R370): the cause is kept in `ctl.cause`, nothing else is saved, and the
controller enters TRANSITION. -/
def State.takeFatal (s : State) (c : Cause) : State :=
  s.setCtl { s.ctl with cause := c, causeIsRate := false, state := .transition }

/-- THE RETURN (R297): the cause is recorded, or the pending rate becomes the active one; the power state is
P0 and the controller is in RESET. -/
def State.finishTransition (s : State) : State :=
  (s.setLc
    (if s.ctl.causeIsRate then { s.lc with rate := s.lc.pendRate, power := 0 }
     else { s.lc with errCause := s.ctl.cause, power := 0 })).setCtl
    { s.ctl with rxCfgDone := false, state := .reset }

end Sys2Proof.Machine
end

