-- ==== Sys2Proof/Machine/Operands.lean ====
section
/-! DEFINITION. The operand forms: what an operation is handed from the registers and wires of the edge
(`spec/30_encoding.md` section 4, R133, R197, R250, R343). -/

namespace Sys2Proof.Machine

/-- `raw = ser_rx_word[W-1:0]`, zero-extended (R131). -/
def rawWord (c : Codec) (w : Block) : Block := BitVec.ofNat 130 (w.toNat % 2 ^ c.lineWidth)

/-- The raw word of this edge. -/
def State.raw (s : State) : Block := rawWord s.rcfgCodec s.inp.rxWord

/-- `hits` of a raw word (R133). -/
def State.hits (s : State) (raw : Block) : List Nat :=
  Sys2Proof.hits s.rcfgCodec (window s.rcfgCodec s.al.prev raw)

/-- The symbol that starts at bit `o` of the window (R142). DESIGN CHOICE, unsafe (log entry 21): where `o` is
not below `W` the slice runs past the window, the spec gives no value, and the missing bits read as zeros. -/
def State.symbolAt (s : State) (raw : Block) (o : Nat) : Block :=
  BitVec.ofNat 130 (slice (window s.rcfgCodec s.al.prev raw) o s.rcfgCodec.lineWidth)

/-- `v = al.out_sym[9:0]` (R165). -/
def State.lineSymbol (s : State) : Line10 := s.al.outSym.setWidth 10

/-- `hold` (R232). -/
def State.hold (s : State) : Bool := s.cdcRx.reqR2

/-- `fill_w` (R197). -/
def State.fillW (s : State) : Nat :=
  subMod s.cfg.pb s.ebw.wptr (ungray s.cfg.pb s.ebw.rgrayW2)

/-- `fill_r` (R197). -/
def State.fillR (s : State) : Nat :=
  subMod s.cfg.pb (ungray s.cfg.pb s.sync.wgrayC2) s.ebr.rptr

/-- `occ`, the true occupancy, which no register holds (R197). -/
def State.occ (s : State) : Nat := subMod s.cfg.pb s.ebw.wptr s.ebr.rptr

/-- The next value of a pointer, modulo `2^PB` (R217). -/
def State.nextPtr (s : State) (ptr : Nat) : Nat := (ptr + 1) % 2 ^ s.cfg.pb

/-- `head`, the slot at `eb.rptr mod D` (R204). -/
def State.head (s : State) : Slot := s.readSlot (s.ebr.rptr % s.cfg.bufferDepth)

/-- The transmit record of the MAC's pins (R343). -/
def txRecord (c : Codec) (data : Payload) (datak : Bool) : SymRec :=
  SymRec.good datak (match c with
    | .c8b10b => (data.setWidth 8).setWidth 128
    | .c128b130b => data)

/-- `in_valid` of a scrambler instance (R250). -/
def State.inValid (s : State) : ScrInst → Bool
  | .scr => s.net.txValid
  | .dsc => s.ebr.outValid

/-- `in` of a scrambler instance (R250). -/
def State.inRec (s : State) : ScrInst → SymRec
  | .scr => s.net.txRec
  | .dsc => s.ebr.out

/-- The seven command pins as one number (R102). -/
def commandPins (m : MacPins) : BitVec 7 :=
  BitVec.ofNat 7 ((if m.txDetectrx then 1 else 0) + 2 * ((if m.txElecidle then 1 else 0) +
    2 * (m.powerdown.toNat + 4 * (m.rate.toNat + 4 * (if m.resetN then 1 else 0)))))

/-- `cmd` of a full reset request: realign, flush, decoder reset, and the codec (R101, R298). -/
def resetCommand (c : Codec) : BitVec 4 := BitVec.ofNat 4 (7 + 8 * c.num)

/-- `cmd` of a flush-only request (R101, R303). -/
def flushCommand (c : Codec) : BitVec 4 := BitVec.ofNat 4 (2 + 8 * c.num)

end Sys2Proof.Machine
end

