-- ==== Sys2Proof/Machine/Bridge.lean ====
section
/-! DEFINITION. The bridge (`spec/44_cdc_handshake.md`): the synchronisers, the RXCTL channel, and the
component effects its command bits force. -/

namespace Sys2Proof.Machine

/-- The RX half of `CDC.SYNC` (R228). -/
def State.syncRx (s : State) : State :=
  (s.setCdcRx { s.cdcRx with reqR1 := s.sampleReq, reqR2 := s.cdcRx.reqR1 }).setEbw
    { s.ebw with rgrayW1 := s.sampleRgray, rgrayW2 := s.ebw.rgrayW1 }

/-- The CORE half of `CDC.SYNC` (R228). -/
def State.syncCore (s : State) : State :=
  s.setSync
    { ackC1 := s.sampleAck, ackC2 := s.sync.ackC1, wgrayC1 := s.sampleWgray, wgrayC2 := s.sync.wgrayC1,
      lockedC1 := s.sampleLocked, lockedC2 := s.sync.lockedC1, ovfC1 := s.sampleOvf,
      ovfC2 := s.sync.ovfC1, sdC1 := s.sampleSigdet, sdC2 := s.sync.sdC1 }

/-- The aligner's reset: `al.prev` keeps following the input (R135). -/
def State.realign (s : State) : State := s.setAl { Aligner.init with prev := s.raw }

/-- The write side's flush; the slots are not touched (R202). -/
def State.flushWrite (s : State) : State := s.setEbw { s.ebw with wptr := 0, ovf := false, delPending := false }

/-- The decoder's reset; the record keeps its value (R169). -/
def State.resetDecoder (s : State) : State :=
  s.setDec { s.dec with rd := .minus, rdKnown := false, outValid := false }

/-- `CDC.SYNC`, at every step of each agent (R228). -/
def execCdcSync (agent : Agent) (s : State) : Host.Outcome State Fault Refusal :=
  match agent with
  | .rx => .next s.syncRx
  | .core => .next s.syncCore

/-- `CDC.REQ` (R230): raise the request with its command word. -/
def execCdcReq (cmd : BitVec 4) (s : State) : Host.Outcome State Fault Refusal := .next (s.raiseRequest cmd)

/-- `CDC.ACK` (R231). -/
def execCdcAck (s : State) : Host.Outcome State Fault Refusal :=
  .next (s.setCdcRx { s.cdcRx with ack := s.cdcRx.reqR2 })

/-- `RXCMD.REALIGN` (R233). -/
def execRxcmdRealign (s : State) : Host.Outcome State Fault Refusal := .next s.realign

/-- `RXCMD.FLUSH`, the RX half; the CORE half is `EB.FLUSHR` (R234). -/
def execRxcmdFlush (s : State) : Host.Outcome State Fault Refusal := .next s.flushWrite

/-- `RXCMD.DECRESET`: the decoder's reset, and the only load of the codec bit (R235). -/
def execRxcmdDecreset (codec : Codec) (s : State) : Host.Outcome State Fault Refusal :=
  .next (s.resetDecoder.setRcfgCodec codec)

end Sys2Proof.Machine
end

