-- ==== Sys2Proof/Machine/Flags.lean ====
section
/-! DEFINITION. Every flag the spec computes: LOCKED (R141), the derived signals of the controller (R292,
R295), the ready reports (R171, R215, R270) and the receive status (R342). The sticky flags OVERFLOW and
UNDERFLOW and the flag `enc.kerr` are single assignments in the operations that write them. -/

namespace Sys2Proof.Machine

/-- LOCKED from the new confidence: set at the threshold, cleared only at zero (R141). -/
def lockedNext (c : Params) (conf : Nat) (locked : Bool) : Bool :=
  if c.lockThreshold ≤ conf then true else if conf = 0 then false else locked

/-- `want` (R292). -/
def State.want (s : State) : Codec := s.cfg.codecOf s.lc.rate

/-- `rate_cmd` (R292). -/
def State.rateCmd (s : State) : Bool := s.cfg.supports s.net.rate && s.net.rate != s.lc.rate

/-- The states in which an OVERFLOW or UNDERFLOW is examined (R295). -/
def bufferExamined : CtlState → Bool
  | .align | .configure | .active => true
  | .reset | .detect | .idle | .transition => false

/-- The states in which a loss of lock counts, and in which the scramblers run (R251, R295, R311). -/
def dataflow : CtlState → Bool
  | .configure | .active => true
  | .reset | .detect | .align | .idle | .transition => false

/-- The time allowed in a wait state, none elsewhere (R295 row 5). -/
def timeLimit (c : Params) : CtlState → Option Nat
  | .detect => some c.tDetect
  | .align => some c.tAlign
  | .configure => some c.tConfigure
  | .reset | .active | .idle | .transition => none

/-- The timer of a wait state has reached its limit. -/
def State.timedOut (s : State) : Bool :=
  match timeLimit s.cfg s.ctl.state with
  | some t => decide (t ≤ s.ctl.timer)
  | none => false

/-- `fatal` (R295): the first condition that holds supplies the cause; `none` is no condition. -/
def State.fatal (s : State) : Cause :=
  if bufferExamined s.ctl.state && s.sync.ovfC2 then .bufferOverflow
  else if bufferExamined s.ctl.state && s.ebr.unf then .bufferUnderflow
  else if dataflow s.ctl.state && decide (s.cfg.alignLossLimit ≤ s.ctl.lossRun) then .alignmentLost
  else if s.ctl.state == .active && decide (s.cfg.decodeErrLimit ≤ s.ctl.errRun) then .scramblerDesync
  else if s.timedOut then .commandTimeout
  else .none

/-- The codec's ready report (R171). -/
def State.codecReady (s : State) : Bool := s.lc.codec == s.want && s.ctl.rxCfgDone

/-- The scrambler's ready report (R270). -/
def State.scramblerReady (s : State) : Bool := s.scr.run && s.dsc.run

/-- The buffer's ready report (R215). -/
def State.bufferReady (s : State) : Bool := s.ebr.rdState == .running

/-- The receive status of a record, first match (R342). -/
def rxStatusOf (v : Bool) (r : SymRec) (ovf unf detected : Bool) : RxStatus :=
  if v && r.tag == .error && r.ek == .code then .decodeError
  else if ovf then .overflow
  else if unf then .underflow
  else if v && r.tag == .error && r.ek == .disp then .disparityError
  else if v && r.ins then .skpAdded
  else if v && r.dl then .skpRemoved
  else if detected then .receiverDetected
  else .ok

end Sys2Proof.Machine
end

