-- ==== Sys2Proof/Machine/Align.lean ====
section
/-! DEFINITION. The aligner's operations (`spec/40_aligner.md` R135 to R142). -/

namespace Sys2Proof.Machine

/-- What every case of `AL.STEP` ends with: the new hypothesis, LOCKED (R141), the output (R142) and the
previous word (R134). -/
def State.alignTo (s : State) (raw : Block) (offset conf since : Nat) : State :=
  s.setAl
    { prev := rawWord s.rcfgCodec raw, offset := offset, conf := conf,
      locked := lockedNext s.cfg conf s.al.locked, since := since, outSym := s.symbolAt raw offset,
      outValid := lockedNext s.cfg conf s.al.locked }

/-- `AL.RESET` (R135). -/
def execAlReset (s : State) : Host.Outcome State Fault Refusal := .next s.realign

/-- `AL.STEP.ACQUIRE`: the lowest offset at which a marker starts (R136). -/
def execAlStepAcquire (raw : Block) (s : State) : Host.Outcome State Fault Refusal :=
  .next (s.alignTo raw ((s.hits raw).headD s.al.offset) 1 0)

/-- `AL.STEP.HIT`: one more marker at the hypothesis, saturating (R137). -/
def execAlStepHit (raw : Block) (s : State) : Host.Outcome State Fault Refusal :=
  .next (s.alignTo raw s.al.offset (min (s.al.conf + 1) s.cfg.confMax) 0)

/-- `AL.STEP.MISS`: the confidence decays by one (R138). -/
def execAlStepMiss (raw : Block) (s : State) : Host.Outcome State Fault Refusal :=
  .next (s.alignTo raw s.al.offset (s.al.conf - 1) (s.al.since + 1))

/-- `AL.STEP.NONE`: only the time since the last marker moves, and only with a hypothesis (R139). -/
def execAlStepNone (raw : Block) (s : State) : Host.Outcome State Fault Refusal :=
  .next (s.alignTo raw s.al.offset s.al.conf (if 0 < s.al.conf then s.al.since + 1 else s.al.since))

/-- `AL.STEP.TIMEOUT`, the modifier that follows `MISS` or `NONE`: where the time has reached
`ALIGN_TIMEOUT` the hypothesis and the lock are dropped (R140, R141, R142). -/
def execAlStepTimeout (s : State) : Host.Outcome State Fault Refusal :=
  .next
    (if s.cfg.alignTimeout ≤ s.al.since then
      s.setAl { s.al with conf := 0, since := 0, locked := lockedNext s.cfg 0 s.al.locked,
                          outValid := lockedNext s.cfg 0 s.al.locked }
    else s)

end Sys2Proof.Machine
end

