-- ==== Sys2Proof/Machine/Buffer.lean ====
section
/-! DEFINITION. The elastic buffer's operations (`spec/43_elastic_buffer.md` R199 to R211). -/

namespace Sys2Proof.Machine

/-- `EB.FLUSHW` (R202). -/
def execEbFlushw (s : State) : Host.Outcome State Fault Refusal := .next s.flushWrite

/-- `EB.DELETE`: the filler is not written (R200). -/
def execEbDelete (_r : SymRec) (s : State) : Host.Outcome State Fault Refusal :=
  .next (s.setEbw { s.ebw with delPending := true })

/-- `EB.OVERFLOW`: the record is dropped and the sticky flag says so (R201). -/
def execEbOverflow (_r : SymRec) (s : State) : Host.Outcome State Fault Refusal :=
  .next (s.setEbw { s.ebw with ovf := true })

/-- `EB.WRITE`: one slot, with the mark of the fillers dropped before it (R199). -/
def execEbWrite (r : SymRec) (s : State) : Host.Outcome State Fault Refusal :=
  match s.writeSlot (s.ebw.wptr % s.cfg.bufferDepth) (Slot.ofRec r s.ebw.delPending) with
  | .next t => .next (t.setEbw { s.ebw with wptr := s.nextPtr s.ebw.wptr, delPending := false })
  | .fault f => .fault f
  | .refused q => .refused q

/-- `EB.IDLEW`: nothing changes (R203). -/
def execEbIdlew (s : State) : Host.Outcome State Fault Refusal := .next s

/-- `EB.FLUSHR` (R205). -/
def execEbFlushr (s : State) : Host.Outcome State Fault Refusal :=
  .next (s.setEbr { s.ebr with rdState := .held, rptr := 0, unf := false, outValid := false })

/-- `EB.PRIME`: wait for the write side's release (R206). -/
def execEbPrime (s : State) : Host.Outcome State Fault Refusal :=
  .next (s.setEbr { s.ebr with outValid := false,
                               rdState := if s.sync.ackC2 then s.ebr.rdState else .priming })

/-- `EB.START`: wait for the start level (R207). -/
def execEbStart (s : State) : Host.Outcome State Fault Refusal :=
  .next (s.setEbr { s.ebr with
    outValid := false,
    rdState := if s.cfg.ebStart ≤ s.fillR ∧ s.fillR ≤ s.cfg.bufferDepth then .running else s.ebr.rdState })

/-- `EB.UNDERFLOW`: the sticky flag, and nothing is delivered (R211). -/
def execEbUnderflow (s : State) : Host.Outcome State Fault Refusal :=
  .next (s.setEbr { s.ebr with unf := true, outValid := false })

/-- `EB.INSERT`: a copy of the filler at the head; the read pointer stays (R210). -/
def execEbInsert (head : Slot) (s : State) : Host.Outcome State Fault Refusal :=
  .next (s.setEbr { s.ebr with out := { head.toRec with dl := false, ins := true }, outValid := true })

/-- `EB.READ`: the head is delivered and released (R208). -/
def execEbRead (head : Slot) (s : State) : Host.Outcome State Fault Refusal :=
  .next (s.setEbr { s.ebr with out := head.toRec, outValid := true, rptr := s.nextPtr s.ebr.rptr })

end Sys2Proof.Machine
end

