-- ==== Sys2Proof/Machine/Controller.lean ====
section
/-! DEFINITION. The controller's operations (`spec/47_controller.md` R294 to R313). Every state operation,
`CTL.STAY` among them, clears the completion pulse of the step before (R315, last line; R318). -/

namespace Sys2Proof.Machine

/-- A scrambler at a hard reset; the record keeps its value (R36, R401). -/
def Scrambler.hardReset (c : Params) (p : Scrambler) : Scrambler := { Scrambler.init c with out := p.out }

/-- `CTL.HARDRESET`: every register of R32 and R34 to R39 takes its hard-reset value; the synchronisers and
the `rx_clk` domain are not reached (R294, R402). -/
def State.hardReset (s : State) : State :=
  { s with
    ctl := Ctl.init
    lc := LinkConfig.init s.cfg
    cdc := { req := false, cmd := 0 }
    idl := { cnt := 0, present := false }
    ebr := { rptr := 0, rdState := .held, unf := false, out := s.ebr.out, outValid := false }
    scr := Scrambler.hardReset s.cfg s.scr
    dsc := Scrambler.hardReset s.cfg s.dsc
    enc := { rd := .minus, outWord := s.enc.outWord, outValid := false, kerr := false }
    pa := { rxData := 0, rxK := false, rxValid := false, rxStatus := .ok }
    rxd := { busy := false, done := false, present := false } }

/-- `CTL.HARDRESET` (R294). -/
def execCtlHardreset (s : State) : Host.Outcome State Fault Refusal := .next s.hardReset

/-- `CTL.TRANSITION.CLOSE`: an outstanding request is completed (R296). -/
def execCtlTransitionClose (s : State) : Host.Outcome State Fault Refusal :=
  .next s.clearPulse.lowerRequest

/-- `CTL.TRANSITION.DONE` (R297). -/
def execCtlTransitionDone (s : State) : Host.Outcome State Fault Refusal :=
  .next s.clearPulse.finishTransition

/-- `CTL.RESET.REQ`: realign, flush, decoder reset, with the codec of the active rate (R298). -/
def execCtlResetReq (s : State) : Host.Outcome State Fault Refusal :=
  .next (s.clearPulse.raiseRequest (resetCommand s.want))

/-- `CTL.RESET.DONE`: the request stays up (R299). -/
def execCtlResetDone (s : State) : Host.Outcome State Fault Refusal :=
  .next (s.setCtl { s.ctl with phyStatus := false, rxCfgDone := true, state := .detect })

/-- `CTL.DETECT.OK` (R300). -/
def execCtlDetectOk (s : State) : Host.Outcome State Fault Refusal :=
  .next (s.clearPulse.lowerRequest.enter .align)

/-- `CTL.ALIGN.OK` (R301). -/
def execCtlAlignOk (s : State) : Host.Outcome State Fault Refusal := .next (s.clearPulse.enter .configure)

/-- `CTL.CONFIGURE.OK` (R302). -/
def execCtlConfigureOk (s : State) : Host.Outcome State Fault Refusal := .next (s.pulse.enter .active)

/-- `CTL.POWERDOWN`: a flush-only request, held through IDLE (R303). -/
def execCtlPowerdown (s : State) : Host.Outcome State Fault Refusal :=
  .next (((s.setLc { s.lc with power := s.net.powerdown }).raiseRequest (flushCommand s.want)).setCtl
    { s.ctl with phyStatus := false, idleDone := false, state := .idle })

/-- `CTL.IDLE.ACK` (R304). -/
def execCtlIdleAck (s : State) : Host.Outcome State Fault Refusal :=
  .next (s.setCtl { s.ctl with idleDone := true, phyStatus := true })

/-- `CTL.POWERUP` (R306). -/
def execCtlPowerup (s : State) : Host.Outcome State Fault Refusal :=
  .next ((s.clearPulse.lowerRequest.setLc { s.lc with power := 0 }).enter .configure)

/-- `CTL.IDLE.CHANGE` (R305). -/
def execCtlIdleChange (s : State) : Host.Outcome State Fault Refusal :=
  .next (s.pulse.setLc { s.lc with power := s.net.powerdown })

/-- `CTL.RATE`: the rate of the pins is latched (R307). -/
def execCtlRate (rate : RateCode) (s : State) : Host.Outcome State Fault Refusal :=
  .next ((s.setLc { s.lc with pendRate := rate }).setCtl
    { s.ctl with phyStatus := false, causeIsRate := true, state := .transition })

/-- `CTL.FATAL` (R308). -/
def execCtlFatal (cause : Cause) (s : State) : Host.Outcome State Fault Refusal :=
  .next (s.clearPulse.takeFatal cause)

/-- `CTL.TIMEOUT`: the case of `CTL.FATAL` with cause 6 (R309). -/
def execCtlTimeout (s : State) : Host.Outcome State Fault Refusal :=
  .next (s.clearPulse.takeFatal .commandTimeout)

/-- The wait states, in which the timer counts (R310). -/
def waits : CtlState → Bool
  | .detect | .align | .configure => true
  | .reset | .active | .idle | .transition => false

/-- `CTL.TICK`: `before` is the state before the edge, and the state operation of the edge has run (R310). -/
def execCtlTick (before : CtlState) (s : State) : Host.Outcome State Fault Refusal :=
  .next (s.setCtl { s.ctl with timer := if s.ctl.state = before ∧ waits before then s.ctl.timer + 1 else 0 })

/-- `ctl.err_run` after a step (R311). -/
def State.errRunNext (s : State) : Nat :=
  if s.ctl.state = .active then
    if s.ebr.outValid then
      if s.ebr.out.tag = .error then min (s.ctl.errRun + 1) s.cfg.decodeErrLimit else 0
    else s.ctl.errRun
  else 0

/-- `ctl.loss_run` after a step (R311). -/
def State.lossRunNext (s : State) : Nat :=
  if dataflow s.ctl.state then
    if s.sync.lockedC2 then 0 else min (s.ctl.lossRun + 1) s.cfg.alignLossLimit
  else 0

/-- `CTL.MONITOR` (R311). -/
def execCtlMonitor (s : State) : Host.Outcome State Fault Refusal :=
  .next (s.setCtl { s.ctl with errRun := s.errRunNext, lossRun := s.lossRunNext })

/-- `CTL.CODEC` (R312). -/
def execCtlCodec (s : State) : Host.Outcome State Fault Refusal :=
  .next
    (if s.ctl.state = .reset ∨ s.ctl.state = .transition then s.setLc { s.lc with codec := s.want } else s)

/-- `CTL.STAY` (R313). -/
def execCtlStay (s : State) : Host.Outcome State Fault Refusal := .next s.clearPulse

end Sys2Proof.Machine
end

