-- ==== Sys2Proof/Machine/IdleDetect.lean ====
section
/-! DEFINITION. The idle and receiver-detect operations (`spec/46_idle_detect.md` R276, R280 to R282). -/

namespace Sys2Proof.Machine

/-- `IDL.DEBOUNCE` (R276). -/
def execIdlDebounce (s : State) : Host.Outcome State Fault Refusal :=
  .next (s.setIdl
    (if s.sync.sdC2 = s.idl.present then { s.idl with cnt := 0 }
     else if s.cfg.sigdetDebounce ≤ s.idl.cnt + 1 then { cnt := 0, present := s.sync.sdC2 }
     else { s.idl with cnt := s.idl.cnt + 1 }))

/-- `RXD.DONE`: the result is latched and the completion pulse given (R281). -/
def execRxdDone (s : State) : Host.Outcome State Fault Refusal :=
  .next (s.pulse.setRxd { busy := false, done := true, present := s.inp.rxdetPresent })

/-- `RXD.CLEAR` (R282). -/
def execRxdClear (s : State) : Host.Outcome State Fault Refusal :=
  .next (s.setRxd { s.rxd with done := false })

/-- `RXD.START` (R280). -/
def execRxdStart (s : State) : Host.Outcome State Fault Refusal :=
  .next (s.setRxd { s.rxd with busy := true })

end Sys2Proof.Machine
end

