-- ==== Sys2Proof/Machine/LineDecode.lean ====
section
/-! DEFINITION. The decoder's operations: codec `C8B10B` (`spec/41_codec_8b10b.md` R164 to R170) and codec
`C128B130B` (`spec/42_codec_128b130b.md` R185 to R187). -/

namespace Sys2Proof.Machine

/-- The record of a decoded pair `(k, b)` (R166). -/
def pairRecord (kb : Bool × Byte) : SymRec := SymRec.good kb.1 (kb.2.setWidth 128)

/-- The record of `DEC10` with known disparity: the column of `dec.rd`, else the other column as a
disparity error, else a code error (R166). -/
def decodeKnown (rd : Rd) (v : Line10) : SymRec :=
  match Code10.decCol rd v with
  | some kb => pairRecord kb
  | none =>
    match Code10.decCol (Code10.flip rd) v with
    | some kb => SymRec.bad .disp (kb.2.setWidth 128)
    | none => SymRec.bad .code 0

/-- `DEC10` with known disparity (R166, R168). -/
def State.decodeStep (s : State) (v : Line10) : State :=
  s.setDec { rd := Code10.lineRd s.dec.rd v, rdKnown := true, out := decodeKnown s.dec.rd v, outValid := true }

/-- `DEC10` with unknown disparity: a word of one column only fixes it (R167). -/
def State.acquireStep (s : State) (v : Line10) : State :=
  match Code10.decCol .minus v, Code10.decCol .plus v with
  | some kb, some _ => s.setDec { s.dec with out := pairRecord kb, outValid := true }
  | some kb, none =>
    s.setDec { rd := Code10.lineRd .minus v, rdKnown := true, out := pairRecord kb, outValid := true }
  | none, some kb =>
    s.setDec { rd := Code10.lineRd .plus v, rdKnown := true, out := pairRecord kb, outValid := true }
  | none, none => s.setDec { s.dec with out := SymRec.bad .code 0, outValid := true }

/-- A record from a block: the disparity registers are not touched (R180, R185). -/
def State.deliver (s : State) (r : SymRec) : State := s.setDec { s.dec with out := r, outValid := true }

/-- `DEC10.OK` (R166). -/
def execDec10Ok (v : Line10) (s : State) : Host.Outcome State Fault Refusal := .next (s.decodeStep v)

/-- `DEC10.DISP` (R166). -/
def execDec10Disp (v : Line10) (s : State) : Host.Outcome State Fault Refusal := .next (s.decodeStep v)

/-- `DEC10.CODE` (R166). -/
def execDec10Code (v : Line10) (s : State) : Host.Outcome State Fault Refusal := .next (s.decodeStep v)

/-- `DEC10.ACQ` (R167). -/
def execDec10Acq (v : Line10) (s : State) : Host.Outcome State Fault Refusal := .next (s.acquireStep v)

/-- `DEC.RESET`; the load of the codec bit is the one of `RXCMD.DECRESET`, from the same sampled command
word (R169, R235). -/
def execDecReset (s : State) : Host.Outcome State Fault Refusal :=
  .next (s.resetDecoder.setRcfgCodec (Codec.ofBit (s.sampleCmd.getLsbD 3)))

/-- `DEC.BUBBLE` (R170). -/
def execDecBubble (s : State) : Host.Outcome State Fault Refusal :=
  .next (s.setDec { s.dec with outValid := false })

/-- `DEC130.D` (R185). -/
def execDec130D (payload : Payload) (s : State) : Host.Outcome State Fault Refusal :=
  .next (s.deliver (SymRec.good false payload))

/-- `DEC130.OS` (R186). -/
def execDec130Os (payload : Payload) (s : State) : Host.Outcome State Fault Refusal :=
  .next (s.deliver (SymRec.good true payload))

/-- `DEC130.BADSYNC`, header `00`: the payload is discarded (R187). -/
def execDec130Badsync00 (_payload : Payload) (s : State) : Host.Outcome State Fault Refusal :=
  .next (s.deliver (SymRec.bad .code 0))

/-- `DEC130.BADSYNC`, header `11`: the payload is discarded (R187). -/
def execDec130Badsync11 (_payload : Payload) (s : State) : Host.Outcome State Fault Refusal :=
  .next (s.deliver (SymRec.bad .code 0))

end Sys2Proof.Machine
end

