-- ==== Sys2Proof/Machine/LineEncode.lean ====
section
/-! DEFINITION. The encoder's operations: codec `C8B10B` (`spec/41_codec_8b10b.md` R158 to R162) and codec
`C128B130B` (`spec/42_codec_128b130b.md` R181, R182). -/

namespace Sys2Proof.Machine

/-- Send one 8b/10b symbol and follow the disparity (R158 to R160). -/
def State.send10 (s : State) (k : Bool) (b : Byte) (kerr : Bool) : State :=
  s.setEnc { rd := (Code10.enc10 k b s.enc.rd).2, outWord := (Code10.enc10 k b s.enc.rd).1.setWidth 130,
             outValid := true, kerr := kerr }

/-- Send one block; the disparity is not touched (R180). -/
def State.send130 (s : State) (k : Bool) (d : Payload) : State :=
  s.setEnc { s.enc with outWord := enc130 k d, outValid := true, kerr := false }

/-- `ENC.RESET` (R161). -/
def execEncReset (s : State) : Host.Outcome State Fault Refusal :=
  .next (s.setEnc { s.enc with rd := .minus, outValid := false, kerr := false })

/-- `ENC10.D` (R158). -/
def execEnc10D (b : Byte) (s : State) : Host.Outcome State Fault Refusal := .next (s.send10 false b false)

/-- `ENC10.K` (R159). -/
def execEnc10K (b : Byte) (s : State) : Host.Outcome State Fault Refusal := .next (s.send10 true b false)

/-- `ENC10.KINV`: K30.7 is sent in the byte's place and flagged (R160). -/
def execEnc10Kinv (_b : Byte) (s : State) : Host.Outcome State Fault Refusal :=
  .next (s.send10 true 0xFE true)

/-- `ENC.BUBBLE`: the disparity is kept (R162). -/
def execEncBubble (s : State) : Host.Outcome State Fault Refusal :=
  .next (s.setEnc { s.enc with outValid := false, kerr := false })

/-- `ENC130.D` (R181). -/
def execEnc130D (d : Payload) (s : State) : Host.Outcome State Fault Refusal := .next (s.send130 false d)

/-- `ENC130.OS` (R182). -/
def execEnc130Os (d : Payload) (s : State) : Host.Outcome State Fault Refusal := .next (s.send130 true d)

end Sys2Proof.Machine
end

