-- ==== Sys2Proof/Machine/PipeAdapter.lean ====
section
/-! DEFINITION. The adapter's operations (`spec/48_pipe_adapter.md` R341 to R344). `PA.TXMAP` and
`PA.CMDMAP` have no register: they drive the wires of `State.net` (log entry 13). -/

namespace Sys2Proof.Machine

/-- `PA.RXMAP` (R341). -/
def execPaRxmap (valid : Bool) (r : SymRec) (s : State) : Host.Outcome State Fault Refusal :=
  .next (s.setPa { s.pa with rxValid := valid, rxData := if valid then r.data else 0,
                             rxK := valid && r.tag == .control })

/-- `PA.STATUS` (R342). -/
def execPaStatus (s : State) : Host.Outcome State Fault Refusal :=
  .next (s.setPa { s.pa with
    rxStatus := rxStatusOf s.dsc.outValid s.dsc.out s.sync.ovfC2 s.ebr.unf
      (s.rxd.busy && s.inp.rxdetDone && s.inp.rxdetPresent) })

/-- `PA.TXMAP` (R343). -/
def execPaTxmap (data : Payload) (datak elecidle : Bool) (s : State) : Host.Outcome State Fault Refusal :=
  .next (s.setNet { s.net with txValid := s.ctl.state == .active && !elecidle,
                               txRec := txRecord s.lc.codec data datak })

/-- `PA.CMDMAP`: the pins reach the controller and the receiver-detect logic as they are (R102, R344). -/
def execPaCmdmap (pins : BitVec 7) (s : State) : Host.Outcome State Fault Refusal :=
  .next (s.setNet { s.net with rate := pins.extractLsb' 4 2, powerdown := pins.extractLsb' 2 2,
                               txElecidle := pins.getLsbD 1, txDetectrx := pins.getLsbD 0 })

end Sys2Proof.Machine
end

