-- ==== Sys2Proof/Machine/Scramble.lean ====
section
/-! DEFINITION. The scrambler's and the descrambler's operations, and the ordered-set tracker
(`spec/45_scrambler.md` R252 to R265). The LFSR's mask, seed and length are parameters (I6, log entry 15). -/

namespace Sys2Proof.Machine

/-- The LFSR after one symbol of a codec, and that symbol's keystream (R249). -/
def State.key (s : State) (p : ScrInst) (k : Codec) : Lfsr × Payload := symbolKey s.cfg k (s.inst p).lfsr

/-- Deliver a record and leave the LFSR at `l`: what every case of R251 (2) with a valid input does. -/
def State.scrambled (s : State) (p : ScrInst) (out : SymRec) (l : Lfsr) : State :=
  s.setInst p { s.inst p with lfsr := l, run := true, out := out, outValid := true }

/-- `in` with its data scrambled by one symbol's keystream; the data of a byte codec is its low byte
(R257, R261). -/
def SymRec.whiten (r : SymRec) (key : Payload) : SymRec := { r with data := r.data ^^^ key }

/-- `SCR.STOP` (R252). -/
def execScrStop (p : ScrInst) (s : State) : Host.Outcome State Fault Refusal :=
  .next (s.setInst p { s.inst p with run := false, lfsr := s.cfg.seed s.lc.codec, aft := false, cnt := 0,
                                     outValid := false })

/-- `SCR.START` (R253). -/
def execScrStart (p : ScrInst) (s : State) : Host.Outcome State Fault Refusal :=
  .next (s.setInst p { s.inst p with run := true })

/-- `SCR.BUBBLE`: the LFSR and the tracker do not move (R253). -/
def execScrBubble (p : ScrInst) (s : State) : Host.Outcome State Fault Refusal :=
  .next (s.setInst p { s.inst p with outValid := false })

/-- `OST.STEP`: the tracker's registers (R254). -/
def execOstStep (p : ScrInst) (r : SymRec) (s : State) : Host.Outcome State Fault Refusal :=
  .next (s.setInst p { s.inst p with aft := (track (s.inst p).aft (s.inst p).cnt r).2.1,
                                     cnt := (track (s.inst p).aft (s.inst p).cnt r).2.2 })

/-- `SCR8.COM`: reseed (R255). -/
def execScr8Com (p : ScrInst) (r : SymRec) (s : State) : Host.Outcome State Fault Refusal :=
  .next (s.scrambled p r (s.cfg.seed .c8b10b))

/-- `SCR8.SKP`: the LFSR is held (R256). -/
def execScr8Skp (p : ScrInst) (r : SymRec) (s : State) : Host.Outcome State Fault Refusal :=
  .next (s.scrambled p r (s.inst p).lfsr)

/-- `SCR8.CTL`: never scrambled, the LFSR advances (R259). -/
def execScr8Ctl (p : ScrInst) (r : SymRec) (s : State) : Host.Outcome State Fault Refusal :=
  .next (s.scrambled p r (s.key p .c8b10b).1)

/-- `SCR8.BYPASS`: not scrambled, the LFSR advances (R258). -/
def execScr8Bypass (p : ScrInst) (r : SymRec) (s : State) : Host.Outcome State Fault Refusal :=
  .next (s.scrambled p r (s.key p .c8b10b).1)

/-- `SCR8.DATA`: the low byte and the keystream byte, by exclusive or (R257). -/
def execScr8Data (p : ScrInst) (r : SymRec) (s : State) : Host.Outcome State Fault Refusal :=
  .next (s.scrambled p (SymRec.whiten r (s.key p .c8b10b).2) (s.key p .c8b10b).1)

/-- `SCR8.ERR`: passed unchanged, the LFSR advances (R260). -/
def execScr8Err (p : ScrInst) (r : SymRec) (s : State) : Host.Outcome State Fault Refusal :=
  .next (s.scrambled p r (s.key p .c8b10b).1)

/-- `SCR128.DATA` (R261). -/
def execScr128Data (p : ScrInst) (r : SymRec) (s : State) : Host.Outcome State Fault Refusal :=
  .next (s.scrambled p (SymRec.whiten r (s.key p .c128b130b).2) (s.key p .c128b130b).1)

/-- `SCR128.EIEOS`: reseed (R262). -/
def execScr128Eieos (p : ScrInst) (r : SymRec) (s : State) : Host.Outcome State Fault Refusal :=
  .next (s.scrambled p r (s.cfg.seed .c128b130b))

/-- `SCR128.SKP`: the LFSR is held (R263). -/
def execScr128Skp (p : ScrInst) (r : SymRec) (s : State) : Host.Outcome State Fault Refusal :=
  .next (s.scrambled p r (s.inst p).lfsr)

/-- `SCR128.OS`: never scrambled, the LFSR advances (R264). -/
def execScr128Os (p : ScrInst) (r : SymRec) (s : State) : Host.Outcome State Fault Refusal :=
  .next (s.scrambled p r (s.key p .c128b130b).1)

/-- `SCR128.ERR`: passed unchanged, the LFSR advances (R265). -/
def execScr128Err (p : ScrInst) (r : SymRec) (s : State) : Host.Outcome State Fault Refusal :=
  .next (s.scrambled p r (s.key p .c128b130b).1)

end Sys2Proof.Machine
end

