-- ==== Sys2Proof/Machine/Dispatch.lean ====
section
/-! DEFINITION. One arm per operation: a direct call of its meaning. -/

namespace Sys2Proof.Machine

def exec (i : Instr) (s : State) : Host.Outcome State Fault Refusal :=
  match i with
  | .cdcSync agent => Sys2Proof.Machine.execCdcSync agent s
  | .cdcReq cmd => Sys2Proof.Machine.execCdcReq cmd s
  | .cdcAck => Sys2Proof.Machine.execCdcAck s
  | .rxcmdRealign => Sys2Proof.Machine.execRxcmdRealign s
  | .rxcmdFlush => Sys2Proof.Machine.execRxcmdFlush s
  | .rxcmdDecreset codec => Sys2Proof.Machine.execRxcmdDecreset codec s
  | .alReset => Sys2Proof.Machine.execAlReset s
  | .alStepAcquire raw => Sys2Proof.Machine.execAlStepAcquire raw s
  | .alStepHit raw => Sys2Proof.Machine.execAlStepHit raw s
  | .alStepMiss raw => Sys2Proof.Machine.execAlStepMiss raw s
  | .alStepNone raw => Sys2Proof.Machine.execAlStepNone raw s
  | .alStepTimeout => Sys2Proof.Machine.execAlStepTimeout s
  | .dec10Ok v => Sys2Proof.Machine.execDec10Ok v s
  | .dec10Disp v => Sys2Proof.Machine.execDec10Disp v s
  | .dec10Code v => Sys2Proof.Machine.execDec10Code v s
  | .dec10Acq v => Sys2Proof.Machine.execDec10Acq v s
  | .decReset => Sys2Proof.Machine.execDecReset s
  | .decBubble => Sys2Proof.Machine.execDecBubble s
  | .dec130D payload => Sys2Proof.Machine.execDec130D payload s
  | .dec130Os payload => Sys2Proof.Machine.execDec130Os payload s
  | .dec130Badsync00 payload => Sys2Proof.Machine.execDec130Badsync00 payload s
  | .dec130Badsync11 payload => Sys2Proof.Machine.execDec130Badsync11 payload s
  | .ebFlushw => Sys2Proof.Machine.execEbFlushw s
  | .ebDelete r => Sys2Proof.Machine.execEbDelete r s
  | .ebOverflow r => Sys2Proof.Machine.execEbOverflow r s
  | .ebWrite r => Sys2Proof.Machine.execEbWrite r s
  | .ebIdlew => Sys2Proof.Machine.execEbIdlew s
  | .ebFlushr => Sys2Proof.Machine.execEbFlushr s
  | .ebPrime => Sys2Proof.Machine.execEbPrime s
  | .ebStart => Sys2Proof.Machine.execEbStart s
  | .ebUnderflow => Sys2Proof.Machine.execEbUnderflow s
  | .ebInsert head => Sys2Proof.Machine.execEbInsert head s
  | .ebRead head => Sys2Proof.Machine.execEbRead head s
  | .scrStop p => Sys2Proof.Machine.execScrStop p s
  | .scrStart p => Sys2Proof.Machine.execScrStart p s
  | .scrBubble p => Sys2Proof.Machine.execScrBubble p s
  | .ostStep p r => Sys2Proof.Machine.execOstStep p r s
  | .scr8Com p r => Sys2Proof.Machine.execScr8Com p r s
  | .scr8Skp p r => Sys2Proof.Machine.execScr8Skp p r s
  | .scr8Ctl p r => Sys2Proof.Machine.execScr8Ctl p r s
  | .scr8Bypass p r => Sys2Proof.Machine.execScr8Bypass p r s
  | .scr8Data p r => Sys2Proof.Machine.execScr8Data p r s
  | .scr8Err p r => Sys2Proof.Machine.execScr8Err p r s
  | .scr128Data p r => Sys2Proof.Machine.execScr128Data p r s
  | .scr128Eieos p r => Sys2Proof.Machine.execScr128Eieos p r s
  | .scr128Skp p r => Sys2Proof.Machine.execScr128Skp p r s
  | .scr128Os p r => Sys2Proof.Machine.execScr128Os p r s
  | .scr128Err p r => Sys2Proof.Machine.execScr128Err p r s
  | .encReset => Sys2Proof.Machine.execEncReset s
  | .enc10D b => Sys2Proof.Machine.execEnc10D b s
  | .enc10K b => Sys2Proof.Machine.execEnc10K b s
  | .enc10Kinv b => Sys2Proof.Machine.execEnc10Kinv b s
  | .encBubble => Sys2Proof.Machine.execEncBubble s
  | .enc130D d => Sys2Proof.Machine.execEnc130D d s
  | .enc130Os d => Sys2Proof.Machine.execEnc130Os d s
  | .idlDebounce => Sys2Proof.Machine.execIdlDebounce s
  | .rxdDone => Sys2Proof.Machine.execRxdDone s
  | .rxdClear => Sys2Proof.Machine.execRxdClear s
  | .rxdStart => Sys2Proof.Machine.execRxdStart s
  | .ctlHardreset => Sys2Proof.Machine.execCtlHardreset s
  | .ctlTransitionClose => Sys2Proof.Machine.execCtlTransitionClose s
  | .ctlTransitionDone => Sys2Proof.Machine.execCtlTransitionDone s
  | .ctlResetReq => Sys2Proof.Machine.execCtlResetReq s
  | .ctlResetDone => Sys2Proof.Machine.execCtlResetDone s
  | .ctlDetectOk => Sys2Proof.Machine.execCtlDetectOk s
  | .ctlAlignOk => Sys2Proof.Machine.execCtlAlignOk s
  | .ctlConfigureOk => Sys2Proof.Machine.execCtlConfigureOk s
  | .ctlPowerdown => Sys2Proof.Machine.execCtlPowerdown s
  | .ctlIdleAck => Sys2Proof.Machine.execCtlIdleAck s
  | .ctlPowerup => Sys2Proof.Machine.execCtlPowerup s
  | .ctlIdleChange => Sys2Proof.Machine.execCtlIdleChange s
  | .ctlRate rate => Sys2Proof.Machine.execCtlRate rate s
  | .ctlFatal cause => Sys2Proof.Machine.execCtlFatal cause s
  | .ctlTimeout => Sys2Proof.Machine.execCtlTimeout s
  | .ctlTick before => Sys2Proof.Machine.execCtlTick before s
  | .ctlMonitor => Sys2Proof.Machine.execCtlMonitor s
  | .ctlCodec => Sys2Proof.Machine.execCtlCodec s
  | .ctlStay => Sys2Proof.Machine.execCtlStay s
  | .paRxmap valid r => Sys2Proof.Machine.execPaRxmap valid r s
  | .paStatus => Sys2Proof.Machine.execPaStatus s
  | .paTxmap data datak elecidle => Sys2Proof.Machine.execPaTxmap data datak elecidle s
  | .paCmdmap pins => Sys2Proof.Machine.execPaCmdmap pins s

end Sys2Proof.Machine
end

