-- ==== Sys2Proof/Machine/Select.lean ====
section
/-! DEFINITION. Selection (`spec/30_encoding.md` R119): which operations one edge performs, from the values
before it. Each list is in an order in which no operation reads what an earlier one of another component has
written, so that performing them one after another is performing them all at once (log entry 10). -/

namespace Sys2Proof.Machine

-- Agent RX

/-- Bit `i` of the sampled command word, during a hold (R232). -/
def State.commanded (s : State) (i : Nat) : Bool := s.hold && s.sampleCmd.getLsbD i

/-- The write side (R198). -/
def selectWrite (s : State) : Instr :=
  if s.commanded 1 then .ebFlushw
  else if s.dec.outValid then
    if isFiller s.dec.out.tag s.dec.out.data s.rcfgCodec = true ∧ s.cfg.ebHigh ≤ s.fillW ∧
        s.fillW ≤ s.cfg.bufferDepth - 2 then .ebDelete s.dec.out
    else if s.cfg.bufferDepth ≤ s.fillW then .ebOverflow s.dec.out
    else .ebWrite s.dec.out
  else .ebIdlew

/-- `AL.STEP.TIMEOUT`, where its condition holds after `MISS` or `NONE` with a hypothesis (R140). -/
def selectTimeout (s : State) : List Instr :=
  if s.cfg.alignTimeout ≤ s.al.since + 1 then [.alStepTimeout] else []

/-- The aligner (R134). -/
def selectAlign (s : State) : List Instr :=
  if s.commanded 0 then [.alReset]
  else if s.al.conf = 0 then
    if s.hits s.raw = [] then [.alStepNone s.raw] else [.alStepAcquire s.raw]
  else if (s.hits s.raw).contains s.al.offset then [.alStepHit s.raw]
  else if s.hits s.raw = [] then .alStepNone s.raw :: selectTimeout s
  else .alStepMiss s.raw :: selectTimeout s

/-- The decoder's case of a ten-bit word (R165, R166). -/
def selectDec10 (s : State) (v : Line10) : Instr :=
  if s.dec.rdKnown then
    if (Code10.decCol s.dec.rd v).isSome then .dec10Ok v
    else if (Code10.decCol (Code10.flip s.dec.rd) v).isSome then .dec10Disp v
    else .dec10Code v
  else .dec10Acq v

/-- The decoder's case of a block, by its sync header (R188). -/
def selectDec130 (b : Block) : Instr :=
  if b.sync = 2 then .dec130D b.payload
  else if b.sync = 1 then .dec130Os b.payload
  else if b.sync = 0 then .dec130Badsync00 b.payload
  else .dec130Badsync11 b.payload

/-- The decoder (R165). -/
def selectDecode (s : State) : Instr :=
  if s.commanded 2 then .decReset
  else if s.al.outValid then
    match s.rcfgCodec with
    | .c8b10b => selectDec10 s s.lineSymbol
    | .c128b130b => selectDec130 s.al.outSym
  else .decBubble

/-- The operations of an RX step (R119, R228, R231, R232). -/
def selectRx (s : State) : List Instr :=
  [selectWrite s] ++ selectAlign s ++
    (if s.commanded 0 then [.rxcmdRealign] else []) ++
    (if s.commanded 1 then [.rxcmdFlush] else []) ++
    [selectDecode s] ++
    (if s.commanded 2 then [.rxcmdDecreset (Codec.ofBit (s.sampleCmd.getLsbD 3))] else []) ++
    [.cdcAck, .cdcSync .rx]

-- Agent CORE

/-- The operations without registers, performed first: they are wires (R341, R343, R344). -/
def selectNets (s : State) : List Instr :=
  [.paCmdmap (commandPins s.inp.mac), .paTxmap s.inp.mac.txData s.inp.mac.txDatak s.inp.mac.txElecidle]

/-- The encoder (R173, R188). -/
def selectEncode (s : State) : Instr :=
  if s.ctl.state = .reset ∨ s.ctl.state = .transition then .encReset
  else if s.scr.outValid then
    match s.lc.codec with
    | .c8b10b =>
      if s.scr.out.tag = .control then
        if Code10.isK s.scr.out.byte then .enc10K s.scr.out.byte else .enc10Kinv s.scr.out.byte
      else .enc10D s.scr.out.byte
    | .c128b130b => if s.scr.out.tag = .control then .enc130Os s.scr.out.data else .enc130D s.scr.out.data
  else .encBubble

/-- A scrambler's operation on a record of codec `C8B10B` (R251). -/
def selectScr8 (s : State) (p : ScrInst) (r : SymRec) : Instr :=
  match r.tag with
  | .control =>
    if r.byte = 0xBC then .scr8Com p r else if r.byte = 0x1C then .scr8Skp p r else .scr8Ctl p r
  | .error => .scr8Err p r
  | .data => if (track (s.inst p).aft (s.inst p).cnt r).1 then .scr8Bypass p r else .scr8Data p r

/-- A scrambler's operation on a record of codec `C128B130B` (R251). -/
def selectScr128 (p : ScrInst) (r : SymRec) : Instr :=
  match r.tag with
  | .data => .scr128Data p r
  | .control =>
    if r.data = eieosPay then .scr128Eieos p r else if r.byte = 0xAA then .scr128Skp p r else .scr128Os p r
  | .error => .scr128Err p r

/-- One scrambler instance (R251). -/
def selectScr (s : State) (p : ScrInst) : List Instr :=
  if dataflow s.ctl.state then
    .scrStart p ::
      (if s.inValid p then
        match s.lc.codec with
        | .c8b10b => [.ostStep p (s.inRec p), selectScr8 s p (s.inRec p)]
        | .c128b130b => [selectScr128 p (s.inRec p)]
       else [.scrBubble p])
  else [.scrStop p]

/-- The read side (R204). -/
def selectRead (s : State) : Instr :=
  if s.cdc.req && s.cdc.cmd.getLsbD 1 then .ebFlushr
  else
    match s.ebr.rdState with
    | .held => .ebPrime
    | .priming => .ebStart
    | .running =>
      if s.fillR = 0 ∨ s.cfg.bufferDepth < s.fillR then .ebUnderflow
      else if isFiller s.head.tag s.head.data s.lc.codec = true ∧ s.fillR ≤ s.cfg.ebLow then .ebInsert s.head
      else .ebRead s.head

/-- The receiver-detect registers (R279). -/
def selectRxd (s : State) : List Instr :=
  if s.rxd.busy then (if s.inp.rxdetDone then [.rxdDone] else [])
  else if s.net.txDetectrx = false then [.rxdClear]
  else if s.ctl.state = .idle ∧ s.net.txElecidle = true ∧ s.rxd.done = false then [.rxdStart]
  else []

/-- Case 5 of the controller's dispatch: the state's own exits (R315). The two exits
that lower `cdc.req`, `CTL.DETECT.OK` and `CTL.POWERUP`, are selected only with `cdc.ack_c2 = 1`, as R229 step 4,
R230 (c) and D25 of `spec/92_eei_decisions.md` say (DEDUCED: beside the guards of R300 and R306, log entry 22). -/
def selectExit (s : State) : Instr :=
  match s.ctl.state with
  | .reset =>
    if s.cdc.req = false ∧ s.sync.ackC2 = false then .ctlResetReq
    else if s.cdc.req = true ∧ s.sync.ackC2 = true then .ctlResetDone
    else .ctlStay
  | .detect => if s.idl.present && s.sync.ackC2 then .ctlDetectOk else .ctlStay
  | .align => if s.sync.lockedC2 = true ∧ s.sync.ackC2 = false then .ctlAlignOk else .ctlStay
  | .configure =>
    if s.codecReady && s.scramblerReady && s.bufferReady then .ctlConfigureOk else .ctlStay
  | .active =>
    if s.net.powerdown ≠ 0 ∧ s.cdc.req = false ∧ s.sync.ackC2 = false then .ctlPowerdown else .ctlStay
  | .idle =>
    if s.sync.ackC2 = true ∧ s.ctl.idleDone = false then .ctlIdleAck
    else if s.ctl.idleDone = true ∧ s.net.powerdown = 0 ∧ s.sync.ackC2 = true then .ctlPowerup
    else if s.ctl.idleDone = true ∧ s.net.powerdown ≠ 0 ∧ s.net.powerdown ≠ s.lc.power then .ctlIdleChange
    else .ctlStay
  | .transition => .ctlStay

/-- The controller's state operation, cases 2 to 6 of the dispatch (R315). -/
def selectCtl (s : State) : Instr :=
  if s.ctl.state = .transition then
    if s.cdc.req then (if s.sync.ackC2 then .ctlTransitionClose else .ctlStay) else .ctlTransitionDone
  else if s.fatal = .commandTimeout then .ctlTimeout
  else if s.fatal ≠ .none then .ctlFatal s.fatal
  else if s.rateCmd then .ctlRate s.net.rate
  else selectExit s

/-- `CDC.REQ` is performed inside the two operations that raise a request (R118, R230). -/
def selectReq (s : State) : List Instr :=
  match selectCtl s with
  | .ctlResetReq => [.cdcReq (resetCommand s.want)]
  | .ctlPowerdown => [.cdcReq (flushCommand s.want)]
  | _ => []

/-- The operations of a CORE step without hard reset, after the wires (R119, R315, R341). -/
def selectCore (s : State) : List Instr :=
  [.ctlMonitor, .paStatus, .paRxmap s.dsc.outValid s.dsc.out, selectEncode s] ++
    selectScr s .scr ++ selectScr s .dsc ++
    [selectRead s, .idlDebounce, .ctlCodec, selectCtl s] ++ selectReq s ++ selectRxd s ++
    [.ctlTick s.ctl.state, .cdcSync .core]

/-- The operations of a CORE step under a hard reset (R402). -/
def selectHardReset : List Instr := [.ctlHardreset, .cdcSync .core]

end Sys2Proof.Machine
end

