-- ==== Sys2Proof/Machine/Edge.lean ====
section
/-! DEFINITION. One clock edge of one agent (`spec/00_scope.md` R14, R15): the next line of the stimulus, the
selected operations, and what a later `sample` may return for the old value (R226). -/

namespace Sys2Proof.Machine

/-- Perform operations in order, stopping at the first that does not answer a next state. -/
def runOps : List Instr → State → Host.Outcome State Fault Refusal
  | [], s => .next s
  | i :: rest, s =>
    match exec i s with
    | .next t => runOps rest t
    | .fault f => .fault f
    | .refused r => .refused r

/-- The next clock edge: the head of the stimulus sequence, or, where it has run out, a free value (log
entry 3). -/
def State.nextStimulus (s : State) : Stimulus :=
  match s.stim with
  | st :: _ => st
  | [] => Config.freeStimulus s.tick

/-- That edge is used up. -/
def State.consume (s : State) : State :=
  match s.stim with
  | _ :: rest => s.setStim rest
  | [] => s.setTick (s.tick + 1)

/-- The MAC's pins as the layout carries them (R347; log entry 7). -/
def layoutIn (c : Params) (m : MacPins) : MacPins :=
  match c.pipeVersion with
  | .pipeDefault => m
  | .other v => Config.openLayoutIn v m

/-- The inputs of an edge are present at it (R15). -/
def State.present (s : State) : Stimulus → State
  | .rx word choice => s.setInp { s.inp with rxWord := word, rxChoice := choice }
  | .core i choice =>
    s.setInp { s.inp with mac := layoutIn s.cfg i.mac, sigdet := i.sigdet, rxdetDone := i.rxdetDone,
                          rxdetPresent := i.rxdetPresent, coreChoice := choice }

/-- After an RX step: its registers' old values, and who has stepped since whom (R226). -/
def crossAfterRx (s : State) : Cross :=
  { s.cross with ack := s.cdcRx.ack, wgray := gray s.ebw.wptr, locked := s.al.locked, ovf := s.ebw.ovf,
                 rxMoved := true, coreMoved := false }

/-- After a CORE step: its registers' old values, and the level the asynchronous input had (R226). -/
def crossAfterCore (s : State) : Cross :=
  { s.cross with req := s.cdc.req, rgray := gray s.ebr.rptr, cmd := s.cdc.cmd, coreMoved := true,
                 rxMoved := false, sigdet := s.inp.sigdet }

/-- Perform operations and record the crossing sources' old values. -/
def edgeOps (ops : List Instr) (c : Cross) (s : State) : Host.Outcome State Fault Refusal :=
  match runOps ops s with
  | .next t => .next (t.setCross c)
  | .fault f => .fault f
  | .refused r => .refused r

/-- One RX step (R14). -/
def rxEdge (s : State) : Host.Outcome State Fault Refusal := edgeOps (selectRx s) (crossAfterRx s) s

/-- One CORE step: under a hard reset, `CTL.HARDRESET` and `CDC.SYNC` alone (R402); else the wires, then
every component's operations (R119). -/
def coreEdge (s : State) : Host.Outcome State Fault Refusal :=
  if s.inp.mac.resetN then
    match runOps (selectNets s) s with
    | .next t => edgeOps (selectCore t) (crossAfterCore t) t
    | .fault f => .fault f
    | .refused r => .refused r
  else edgeOps selectHardReset (crossAfterCore s) s

/-- The edge of a stimulus line, at a state that presents its inputs. -/
def edge : Agent → State → Host.Outcome State Fault Refusal
  | .rx, s => rxEdge s
  | .core, s => coreEdge s

/-- One step of the machine: the next clock edge. A configuration outside R10 is refused (R423). -/
def stepEdge (s : State) : Host.Outcome State Fault Refusal :=
  if s.cfg.legal then edge s.nextStimulus.agent (s.consume.present s.nextStimulus)
  else .refused .illegalConfig

end Sys2Proof.Machine
end

