-- ==== Sys2Proof/Machine/Fetch.lean ====
section
/-! DEFINITION. How an operation is made the next one: the engine fetches nothing (R2, R78, R119), so the
registers and the one stimulus line are set on which the next edge selects it (log entry 1). -/

namespace Sys2Proof.Machine

/-- The next edge is an RX edge with this word. -/
def State.nextRx (s : State) (word : Block) : State := s.setStim [.rx word .now]

/-- The pins of a CORE edge that asks for nothing: the active rate, P0, transmit idle. -/
def State.quietPins (s : State) : MacPins :=
  { resetN := true, rate := s.lc.rate, powerdown := 0, txData := 0, txDatak := false, txElecidle := true,
    txDetectrx := false }

/-- The next edge is a CORE edge with these pins. -/
def State.nextCore (s : State) (m : MacPins) : State :=
  s.setStim [.core { mac := m, sigdet := false, rxdetDone := false, rxdetPresent := false } .now]

/-- The next edge is a CORE edge at which nothing is asked for. -/
def State.nextQuiet (s : State) : State := s.nextCore s.quietPins

/-- The hold is on, with this command word. -/
def State.held (s : State) (cmd : BitVec 4) : State :=
  (s.setCdcRx { s.cdcRx with reqR2 := true }).setCdc { req := true, cmd := cmd }

/-- No hold. -/
def State.free (s : State) : State := s.setCdcRx { s.cdcRx with reqR2 := false }

/-- The aligner with a previous word, a hypothesis and a codec. -/
def State.alignerAt (s : State) (c : Codec) (prev : Block) (offset conf since : Nat) : State :=
  (s.free.setRcfgCodec c).setAl { s.al with prev := prev, offset := offset, conf := conf, since := since }

/-- A window whose previous word starts with a marker: ten-bit words where the operand fits, else blocks. -/
def State.atMarker (s : State) (raw : Block) (offset conf : Nat) : State :=
  if raw.toNat < 2 ^ 10 then s.alignerAt .c8b10b 0x7C offset conf 0
  else s.alignerAt .c128b130b eieosBlk offset conf 0

/-- The aligner delivers a line symbol to the decoder. -/
def State.delivers (s : State) (c : Codec) (sym : Block) : State :=
  (s.free.setRcfgCodec c).setAl { s.al with outSym := sym, outValid := true }

/-- The decoder knows this disparity, or none. -/
def State.disparity (s : State) (rd : Rd) (known : Bool) : State :=
  s.setDec { s.dec with rd := rd, rdKnown := known }

/-- The codec under which a record is a filler. -/
def fillerCodec (t : Tag) (d : Payload) : Codec := if isFiller t d .c8b10b then .c8b10b else .c128b130b

/-- The decoder delivers a record to a write side at this fill. -/
def State.decoded (s : State) (r : SymRec) (c : Codec) (fill : Nat) : State :=
  (((s.free.setRcfgCodec c).setDec { s.dec with out := r, outValid := true }).setEbw
    { s.ebw with wptr := fill, rgrayW2 := 0 })

/-- The read side runs with this slot at its head and this fill. -/
def State.readAt (s : State) (h : Slot) (c : Codec) (fill : Nat) : State :=
  ((((s.setCdc { s.cdc with req := false }).setEbr { s.ebr with rptr := 0, rdState := .running }).setMem
    (s.mem.write 0 h)).setSync { s.sync with wgrayC2 := gray fill }).setLc { s.lc with codec := c }

/-- The read side in a state, with no flush. -/
def State.readState (s : State) (q : RdState) : State :=
  (s.setCdc { s.cdc with req := false }).setEbr { s.ebr with rdState := q }

/-- The controller in a state, with no fatal condition and no report. -/
def State.calm (s : State) (q : CtlState) : State :=
  ((s.setCtl { Ctl.init with state := q }).setSync
    { s.sync with ackC2 := false, lockedC2 := false, ovfC2 := false }).setEbr { s.ebr with unf := false }

/-- The request register and the acknowledge as the controller sees it. -/
def State.channel (s : State) (req ack : Bool) : State :=
  (s.setCdc { s.cdc with req := req }).setSync { s.sync with ackC2 := ack }

/-- A scrambler instance is fed a record: the descrambler from the buffer, the scrambler from the pins. -/
def State.fed (s : State) (p : ScrInst) (r : SymRec) (c : Codec) (cnt : Nat) : State :=
  let t := (s.setLc { s.lc with codec := c }).setInst p { s.inst p with aft := false, cnt := cnt }
  match p with
  | .dsc => ((t.calm .configure).setEbr { t.ebr with out := r, outValid := true, unf := false }).nextQuiet
  | .scr => (t.calm .active).nextCore
      { t.quietPins with txData := r.data, txDatak := r.tag == .control, txElecidle := false }

/-- The scrambler delivers a record to the encoder. -/
def State.encodes (s : State) (r : SymRec) (c : Codec) : State :=
  (((s.calm .configure).setLc { s.lc with codec := c }).setScr { s.scr with out := r, outValid := true }).nextQuiet

/-- A supported rate other than the one given. -/
def Params.otherRate (c : Params) (r : RateCode) : RateCode := (c.supportedRates.find? (· != r)).getD (r + 1)

/-- A supported rate of a codec. -/
def Params.rateOf (c : Params) (k : Codec) : RateCode :=
  (c.supportedRates.find? (fun r => c.codecOf r == k)).getD c.lowestRate

/-- At a state whose active rate is `r`. -/
def State.atRate (s : State) (r : RateCode) : State := s.setLc { s.lc with rate := r }

/-- A request with this command word: a full reset or a flush, with the codec of an active rate (R101); the
controller raises no other. -/
def State.requests (s : State) (cmd : BitVec 4) : State :=
  let t := s.atRate (Params.rateOf s.cfg (Codec.ofBit (cmd.getLsbD 3)))
  if cmd.toNat % 8 = 2 then ((t.calm .active).channel false false).nextCore { t.quietPins with powerdown := 1 }
  else ((t.calm .reset).channel false false).nextQuiet

/-- The fatal condition of a cause (R295). -/
def State.failing (s : State) : Cause → State
  | .bufferOverflow => let t := s.calm .align; (t.setSync { t.sync with ovfC2 := true }).nextQuiet
  | .bufferUnderflow => let t := s.calm .align; (t.setEbr { t.ebr with unf := true }).nextQuiet
  | .alignmentLost =>
    let t := s.calm .configure; (t.setCtl { t.ctl with lossRun := s.cfg.alignLossLimit }).nextQuiet
  | .scramblerDesync =>
    let t := s.calm .active; (t.setCtl { t.ctl with errRun := s.cfg.decodeErrLimit }).nextQuiet
  | .commandTimeout => let t := s.calm .detect; (t.setCtl { t.ctl with timer := s.cfg.tDetect }).nextQuiet
  | .none => s.nextQuiet
  | .codecDecodeError => s.nextQuiet

/-- A state whose next edge performs the operation. -/
def arrange (i : Instr) (s : State) : State :=
  match i with
  | .cdcSync .rx => s.nextRx 0
  | .cdcSync .core => s.nextQuiet
  | .cdcReq cmd => s.requests cmd
  | .cdcAck => s.nextRx 0
  | .rxcmdRealign => (s.held 1).nextRx 0
  | .rxcmdFlush => (s.held 2).nextRx 0
  | .rxcmdDecreset c => (s.held (BitVec.ofNat 4 (4 + 8 * c.num))).nextRx 0
  | .alReset => (s.held 1).nextRx 0
  | .alStepAcquire raw => (s.atMarker raw 0 0).nextRx raw
  | .alStepHit raw => (s.atMarker raw 0 1).nextRx raw
  | .alStepMiss raw => (s.atMarker raw 1 1).nextRx raw
  | .alStepNone raw => (s.alignerAt .c128b130b 0 0 0 0).nextRx raw
  | .alStepTimeout => (s.alignerAt .c128b130b 0 0 1 (s.cfg.alignTimeout - 1)).nextRx 0
  | .dec10Ok v =>
    ((s.delivers .c8b10b (v.setWidth 130)).disparity (if inColumn .minus v then .minus else .plus) true).nextRx 0
  | .dec10Disp v =>
    ((s.delivers .c8b10b (v.setWidth 130)).disparity (if inColumn .minus v then .plus else .minus) true).nextRx 0
  | .dec10Code v => ((s.delivers .c8b10b (v.setWidth 130)).disparity .minus true).nextRx 0
  | .dec10Acq v => ((s.delivers .c8b10b (v.setWidth 130)).disparity .minus false).nextRx 0
  | .decReset => (s.held 4).nextRx 0
  | .decBubble => (s.free.setAl { s.al with outValid := false }).nextRx 0
  | .dec130D d => (s.delivers .c128b130b (BitVec.ofNat 130 (4 * d.toNat + 2))).nextRx 0
  | .dec130Os d => (s.delivers .c128b130b (BitVec.ofNat 130 (4 * d.toNat + 1))).nextRx 0
  | .dec130Badsync00 d => (s.delivers .c128b130b (BitVec.ofNat 130 (4 * d.toNat))).nextRx 0
  | .dec130Badsync11 d => (s.delivers .c128b130b (BitVec.ofNat 130 (4 * d.toNat + 3))).nextRx 0
  | .ebFlushw => (s.held 2).nextRx 0
  | .ebDelete r => (s.decoded r (fillerCodec r.tag r.data) s.cfg.ebHigh).nextRx 0
  | .ebOverflow r => (s.decoded r s.rcfgCodec s.cfg.bufferDepth).nextRx 0
  | .ebWrite r => (s.decoded r s.rcfgCodec 0).nextRx 0
  | .ebIdlew => (s.free.setDec { s.dec with outValid := false }).nextRx 0
  | .ebFlushr => (s.setCdc { req := true, cmd := 2 }).nextQuiet
  | .ebPrime => (s.readState .held).nextQuiet
  | .ebStart => (s.readState .priming).nextQuiet
  | .ebUnderflow => (s.readAt .blank s.lc.codec 0).nextQuiet
  | .ebInsert h => (s.readAt h (fillerCodec h.tag h.data) 1).nextQuiet
  | .ebRead h => (s.readAt h s.lc.codec (s.cfg.ebLow + 1)).nextQuiet
  | .scrStop _ => (s.calm .reset).nextQuiet
  | .scrStart _ => (s.calm .configure).nextQuiet
  | .scrBubble _ => ((s.calm .configure).setEbr { s.ebr with outValid := false }).nextQuiet
  | .ostStep p r => s.fed p r .c8b10b 0
  | .scr8Com p r => s.fed p r .c8b10b 0
  | .scr8Skp p r => s.fed p r .c8b10b 0
  | .scr8Ctl p r => s.fed p r .c8b10b 0
  | .scr8Bypass p r => s.fed p r .c8b10b 1
  | .scr8Data p r => s.fed p r .c8b10b 0
  | .scr8Err p r => s.fed p r .c8b10b 0
  | .scr128Data p r => s.fed p r .c128b130b 0
  | .scr128Eieos p r => s.fed p r .c128b130b 0
  | .scr128Skp p r => s.fed p r .c128b130b 0
  | .scr128Os p r => s.fed p r .c128b130b 0
  | .scr128Err p r => s.fed p r .c128b130b 0
  | .encReset => (s.calm .reset).nextQuiet
  | .enc10D b => s.encodes (SymRec.good false (b.setWidth 128)) .c8b10b
  | .enc10K b => s.encodes (SymRec.good true (b.setWidth 128)) .c8b10b
  | .enc10Kinv b => s.encodes (SymRec.good true (b.setWidth 128)) .c8b10b
  | .encBubble => ((s.calm .configure).setScr { s.scr with outValid := false }).nextQuiet
  | .enc130D d => s.encodes (SymRec.good false d) .c128b130b
  | .enc130Os d => s.encodes (SymRec.good true d) .c128b130b
  | .idlDebounce => s.nextQuiet
  | .rxdDone => (s.setRxd { s.rxd with busy := true }).setStim
      [.core { mac := s.quietPins, sigdet := false, rxdetDone := true, rxdetPresent := true } .now]
  | .rxdClear => (s.setRxd { s.rxd with busy := false }).nextQuiet
  | .rxdStart => ((s.calm .idle).setRxd { s.rxd with busy := false, done := false }).nextCore
      { s.quietPins with txDetectrx := true }
  | .ctlHardreset => s.nextCore { s.quietPins with resetN := false }
  | .ctlTransitionClose => ((s.calm .transition).channel true true).nextQuiet
  | .ctlTransitionDone => ((s.calm .transition).channel false false).nextQuiet
  | .ctlResetReq => ((s.calm .reset).channel false false).nextQuiet
  | .ctlResetDone => ((s.calm .reset).channel true true).nextQuiet
  | .ctlDetectOk => (((s.calm .detect).channel true true).setIdl { s.idl with present := true }).nextQuiet
  | .ctlAlignOk =>
    let t := (s.calm .align).channel false false
    (t.setSync { t.sync with lockedC2 := true }).nextQuiet
  | .ctlConfigureOk =>
    let t := ((s.calm .configure).channel false false).setLc { s.lc with codec := s.want }
    ((((t.setCtl { t.ctl with rxCfgDone := true }).setScr { s.scr with run := true }).setDsc
      { s.dsc with run := true }).setEbr { t.ebr with rdState := .running }).nextQuiet
  | .ctlPowerdown => ((s.calm .active).channel false false).nextCore { s.quietPins with powerdown := 1 }
  | .ctlIdleAck => ((s.calm .idle).channel true true).nextQuiet
  | .ctlPowerup =>
    let t := (s.calm .idle).channel true true
    (t.setCtl { t.ctl with idleDone := true }).nextQuiet
  | .ctlIdleChange =>
    let t := (s.calm .idle).channel true true
    (t.setCtl { t.ctl with idleDone := true }).nextCore
      { s.quietPins with powerdown := if s.lc.power = 1 then 2 else 1 }
  | .ctlRate r => ((s.atRate (Params.otherRate s.cfg r)).calm .reset).nextCore { s.quietPins with rate := r }
  | .ctlFatal c => s.failing c
  | .ctlTimeout => s.failing .commandTimeout
  | .ctlTick q => (s.calm q).nextQuiet
  | .ctlMonitor => s.nextQuiet
  | .ctlCodec => s.nextQuiet
  | .ctlStay => ((s.calm .active).channel false false).nextQuiet
  | .paRxmap v r => (s.setDsc { s.dsc with out := r, outValid := v }).nextQuiet
  | .paStatus => s.nextQuiet
  | .paTxmap d k e => s.nextCore { s.quietPins with txData := d, txDatak := k, txElecidle := e }
  | .paCmdmap pins => s.nextCore
      { resetN := pins.getLsbD 6, rate := pins.extractLsb' 4 2, powerdown := pins.extractLsb' 2 2,
        txData := 0, txDatak := false, txElecidle := pins.getLsbD 1, txDetectrx := pins.getLsbD 0 }

/-- The state whose next step runs the operation of a table word; as it is where the decoder refuses. -/
def fetchWord (s : State) (nbits w : Nat) : State :=
  match decodeTableWord nbits w with
  | some i => arrange i s
  | none => s

end Sys2Proof.Machine
end

