-- ==== Sys2Proof/Machine/Outputs.lean ====
section
/-! DEFINITION. The outputs: functions of registers, but for `pipe_rate_reject`, which is a function of the
pins (`spec/30_encoding.md` R112, R114). -/

namespace Sys2Proof.Machine

/-- `pipe_ready` (R105, R112). -/
def State.ready (s : State) : Bool := s.ctl.state == .active

/-- `pipe_rx_valid` (R112, R341). -/
def State.rxValid (s : State) : Bool := s.ready && s.pa.rxValid

/-- The outputs of layout `PIPE_DEFAULT` (R112). -/
def defaultOutputs (s : State) : MacOut :=
  { ready := s.ready
    ctlState := BitVec.ofNat 3 s.ctl.state.num
    curRate := s.lc.rate
    curPower := s.lc.power
    errCause := BitVec.ofNat 3 s.lc.errCause.num
    phyStatus := s.ctl.phyStatus
    rateReject := !s.cfg.supports s.inp.mac.rate
    rxValid := s.rxValid
    rxData := if s.rxValid then s.pa.rxData else 0
    rxDatak := s.rxValid && s.pa.rxK
    rxStatus := BitVec.ofNat 3 s.pa.rxStatus.num
    rxElecidle := !s.idl.present
    txKerr := s.enc.kerr }

/-- The engine's outputs toward the MAC (R112, R347). -/
def macOutputs (s : State) : MacOut :=
  match s.cfg.pipeVersion with
  | .pipeDefault => defaultOutputs s
  | .other v => Config.openLayoutOut v (defaultOutputs s)

/-- The engine's outputs toward the SerDes (R114). -/
def serOutputs (s : State) : SerOut :=
  { txWord := s.enc.outWord
    txValid := s.enc.outValid
    txElecidle := !s.enc.outValid
    rate := s.lc.rate
    codec := s.lc.codec
    reset := s.ctl.state == .reset
    powerdown := s.lc.power
    rxdetReq := s.rxd.busy }

end Sys2Proof.Machine
end

