-- ==== Sys2Proof/Machine/Step.lean ====
section
/-! DEFINITION. The step, and the state whose next step runs a given operation. -/

namespace Sys2Proof.Machine

/-- One clock edge of one agent (R14). -/
def step (s : State) : Host.Outcome State Fault Refusal := stepEdge s

/-- The state whose very next step runs the operation of a table word. -/
def State.withFetchWord (s : State) (nbits w : Nat) : State := fetchWord s nbits w

end Sys2Proof.Machine
end

