-- ==== Sys2Proof/Safety.lean ====
section
/-! DEFINITION. What counts as a sound state and as an environment the spec allows, in the terms the
statements use: the invariant `EngineInv`, component by component, and the bound on the two clocks (R17). -/

namespace Sys2Proof.Machine

/-- The slot array is canonical, inside `0 .. D-1`, and no slot has an error kind without the tag ERROR
(R25 (a), R66). -/
structure MemoryInv (s : State) : Prop where
  canonical : s.mem.wf = true
  inRange : ∀ e ∈ s.mem, e.1 < s.cfg.bufferDepth
  kinds : ∀ e ∈ s.mem, kindFits e.2.tag e.2.ek = true

/-- The aligner's counters (R148), and LOCKED: never without a hypothesis, and equal to the output's valid
bit (R141, R142). -/
structure AlignerInv (s : State) : Prop where
  offset : s.al.offset < 130
  conf : s.al.conf ≤ s.cfg.confMax
  since : s.al.since < s.cfg.alignTimeout
  locked : s.al.locked = true → 0 < s.al.conf
  valid : s.al.outValid = s.al.locked

/-- The decoder: a record it holds is well formed and carries no buffer mark (R166); an unknown disparity is
stored as RD- (R167, R169). Nothing is said of `dec.out` without its valid bit (R23, R401). -/
structure DecoderInv (s : State) : Prop where
  record : s.dec.outValid = true → s.dec.out.ok = true
  unmarked : s.dec.outValid = true → s.dec.out.dl = false ∧ s.dec.out.ins = false
  unknown : s.dec.rdKnown = false → s.dec.rd = .minus

/-- Every pointer, and every Gray code of one, fits in `PB` bits (R217, R424). -/
structure PointerInv (s : State) : Prop where
  wptr : s.ebw.wptr < 2 ^ s.cfg.pb
  rptr : s.ebr.rptr < 2 ^ s.cfg.pb
  rgrayW1 : s.ebw.rgrayW1 < 2 ^ s.cfg.pb
  rgrayW2 : s.ebw.rgrayW2 < 2 ^ s.cfg.pb
  wgrayC1 : s.sync.wgrayC1 < 2 ^ s.cfg.pb
  wgrayC2 : s.sync.wgrayC2 < 2 ^ s.cfg.pb
  wgrayOld : s.cross.wgray < 2 ^ s.cfg.pb
  rgrayOld : s.cross.rgray < 2 ^ s.cfg.pb

/-- The read side delivers and reports UNDERFLOW only while it runs (R205 to R211). -/
structure ReadInv (s : State) : Prop where
  record : s.ebr.outValid = true → s.ebr.out.ok = true
  delivers : s.ebr.outValid = true → s.ebr.rdState = .running
  underflow : s.ebr.unf = true → s.ebr.rdState = .running

/-- One scrambler instance: the tracker counts at most 14 and a COM clears the count (R254), and a symbol
is held only while it runs (R252, R253). -/
structure ScramblerInv (p : ScrInst) (v : Scrambler) : Prop where
  record : v.outValid = true → SymRec.fedTo p v.out = true
  count : v.cnt ≤ 14
  afterCom : v.aft = true → v.cnt = 0
  runs : v.outValid = true → v.run = true

/-- The transmit path: the adapter's record is DATA or CONTROL (R343), and `enc.kerr` is set only with a
symbol (R160). -/
structure TransmitInv (s : State) : Prop where
  record : s.net.txValid = true → SymRec.fedTo .scr s.net.txRec = true
  kerr : s.enc.kerr = true → s.enc.outValid = true

/-- No symbol, no data toward the MAC (R341); a receiver-detect request is not both outstanding and
completed (R279). -/
structure OutputInv (s : State) : Prop where
  zeros : s.pa.rxValid = false → s.pa.rxData = 0 ∧ s.pa.rxK = false
  detect : s.rxd.busy = true → s.rxd.done = false

/-- The controller's counters (R310, R311, R381) and the debounce counter (R276). -/
structure CounterInv (s : State) : Prop where
  timer : s.ctl.timer ≤ (timeLimit s.cfg s.ctl.state).getD 0
  errRun : s.ctl.errRun ≤ s.cfg.decodeErrLimit
  lossRun : s.ctl.lossRun ≤ s.cfg.alignLossLimit
  debounce : s.idl.cnt < s.cfg.sigdetDebounce

/-- The controller holds the RXCTL request up in DETECT and IDLE and down in ALIGN, CONFIGURE and ACTIVE
(R319); every request it makes has the `flush` bit (R101). -/
structure RequestInv (s : State) : Prop where
  up : s.ctl.state = .detect ∨ s.ctl.state = .idle → s.cdc.req = true
  down : s.ctl.state = .align ∨ s.ctl.state = .configure ∨ s.ctl.state = .active → s.cdc.req = false
  flush : s.cdc.req = true → s.cdc.cmd.getLsbD 1 = true

/-- Link Configuration (R32, R312): the active rate is supported, a low-power state is held only in IDLE and
in a TRANSITION, the codec is the rate's outside RESET, and cause 2 is never recorded (R366). -/
structure LinkInv (s : State) : Prop where
  rate : s.cfg.supports s.lc.rate = true
  pending : s.ctl.causeIsRate = true → s.cfg.supports s.lc.pendRate = true
  power : s.lc.power ≠ 0 → s.ctl.state = .idle ∨ s.ctl.state = .transition
  codec : s.ctl.state ≠ .reset → s.lc.codec = s.want
  cause : s.ctl.cause ≠ .codecDecodeError
  errCause : s.lc.errCause ≠ .codecDecodeError

/-- What the state alone guarantees (R302, R316): outside RESET and TRANSITION the `rx_clk` domain has been
configured, and in ACTIVE all three ready reports hold. -/
structure ReadyInv (s : State) : Prop where
  configured : s.ctl.state ≠ .reset → s.ctl.state ≠ .transition → s.ctl.rxCfgDone = true
  running : s.ctl.state = .active → s.scr.run = true ∧ s.dsc.run = true ∧ s.ebr.rdState = .running

/-- The invariant of the engine. -/
structure EngineInv (s : State) : Prop where
  config : s.cfg.legal = true
  memory : MemoryInv s
  aligner : AlignerInv s
  decoder : DecoderInv s
  pointers : PointerInv s
  read : ReadInv s
  scrambler : ScramblerInv .scr s.scr
  descrambler : ScramblerInv .dsc s.dsc
  transmit : TransmitInv s
  outputs : OutputInv s
  counters : CounterInv s
  request : RequestInv s
  link : LinkInv s
  ready : ReadyInv s

/-- The bound of R17 on the numbers of edges in one interval, over millions. -/
def edgesTolerated (c : Params) (rx core : Nat) : Bool :=
  decide ((rx - core + (core - rx)) * 1000000 ≤ 1000000 + core * c.tolPpm)

/-- The lines of one agent in a stimulus sequence. -/
def edgesOf (a : Agent) (l : List Stimulus) : Nat := l.countP (fun st => st.agent == a)

/-- The clocks of a stimulus sequence are within tolerance over every interval (R17). No step enforces it:
a statement that needs it takes it as a premise. -/
def clocksTolerated (c : Params) (l : List Stimulus) : Prop :=
  ∀ w, w <:+: l → edgesTolerated c (edgesOf .rx w) (edgesOf .core w) = true

/-- Present one record to a scrambler instance and perform what it selects (R250, R251). -/
def passOne (p : ScrInst) (s : State) (r : SymRec) : Host.Outcome State Fault Refusal :=
  match p with
  | .scr => let t := s.setNet { s.net with txValid := true, txRec := r }; runOps (selectScr t .scr) t
  | .dsc => let t := s.setEbr { s.ebr with outValid := true, out := r }; runOps (selectScr t .dsc) t

/-- The records a scrambler instance delivers for a sequence, none where a step does not answer. -/
def passAll (p : ScrInst) : State → List SymRec → Option (List SymRec)
  | _, [] => some []
  | s, r :: rest =>
    match passOne p s r with
    | .next t => (passAll p t rest).map (fun out => (t.inst p).out :: out)
    | .fault _ => none
    | .refused _ => none

/-- The operations the next step performs, in order (R119). -/
def nextOps (s : State) : List Instr :=
  let n := s.consume.present s.nextStimulus
  match s.nextStimulus.agent with
  | .rx => selectRx n
  | .core =>
    if n.inp.mac.resetN then
      match runOps (selectNets n) n with
      | .next t => selectNets n ++ selectCore t
      | .fault _ => []
      | .refused _ => []
    else selectHardReset

/-- The operations some edge can select under a configuration: the controller raises no request but its two
(R101), takes no unsupported rate (R307), `PA.CMDMAP` is not performed under a hard reset (R402), and a
transmit record of codec `C8B10B` is one byte (R343). -/
def producible (c : Params) : Instr → Bool
  | .cdcReq cmd =>
    cmd.toNat % 8 == 2 && c.supportedRates.any (fun r => (c.codecOf r).num == cmd.toNat / 8) ||
    cmd.toNat % 8 == 7 && c.supportedRates.any (fun r => (c.codecOf r).num == cmd.toNat / 8)
  | .ctlRate r => c.supports r && c.supportedRates.any (· != r)
  | .paCmdmap pins => pins.getLsbD 6
  | .ostStep .scr r => r.tag != .error && decide (r.data.toNat < 256)
  | .scr8Com .scr r => decide (r.data.toNat < 256)
  | .scr8Skp .scr r => decide (r.data.toNat < 256)
  | .scr8Ctl .scr r => decide (r.data.toNat < 256)
  | .scr8Bypass .scr r => decide (r.data.toNat < 256)
  | .scr8Data .scr r => decide (r.data.toNat < 256)
  | .scr8Err .scr _ => false
  | .scr128Err .scr _ => false
  | _ => true

/-- The edges of the controller's transition table, self-loops apart (R314). -/
def controllerEdges : List (CtlState × CtlState) :=
  [ (.reset, .detect), (.reset, .transition), (.detect, .align), (.detect, .transition),
    (.align, .configure), (.align, .transition), (.configure, .active), (.configure, .transition),
    (.active, .idle), (.active, .transition), (.idle, .configure), (.idle, .transition),
    (.transition, .reset) ]

/-- The causes `CTL.FATAL` and `CTL.TIMEOUT` can record from each state (R314). -/
def possibleCauses : CtlState → List Cause
  | .reset => []
  | .detect => [.commandTimeout]
  | .align => [.bufferOverflow, .bufferUnderflow, .commandTimeout]
  | .configure => [.bufferOverflow, .bufferUnderflow, .alignmentLost, .commandTimeout]
  | .active => [.bufferOverflow, .bufferUnderflow, .alignmentLost, .scramblerDesync]
  | .idle => []
  | .transition => []

end Sys2Proof.Machine
end

