-- ==== Sys2Proof/Certificates/Slice0/Obligations.lean ====
section
/-! DEFINITION. The statements for the provers. A statement about one operation says its whole next state,
so that its right-hand side is also its frame: the components it does not mention, the slot array among them,
are unchanged. -/

open Sys2Proof Sys2Proof.Machine

/-- A step of a legal configuration performs the selected operations. Derived from R14, R119, R402. Rests on
log entries 1, 3, 10 and 13, the model's choice: a step as an edge of a stimulus list, the operations
performed one after another with the wires first, and the recording of the crossings. -/
def Obligations.StepRunsSelectedOperations : Prop :=
  (∀ s w ch rest, s.cfg.legal = true → s.stim = .rx w ch :: rest →
    let n := (s.setStim rest).present (.rx w ch)
    step s = edgeOps (selectRx n) (crossAfterRx n) n) ∧
  (∀ s i ch rest, s.cfg.legal = true → s.stim = .core i ch :: rest →
    let n := (s.setStim rest).present (.core i ch)
    (n.inp.mac.resetN = false →
      step s = edgeOps [.ctlHardreset, .cdcSync .core] (crossAfterCore n) n) ∧
    (n.inp.mac.resetN = true → ∀ t, runOps (selectNets n) n = .next t →
      step s = edgeOps (selectCore t) (crossAfterCore t) t)) ∧
  (∀ i rest s t, exec i s = .next t → runOps (i :: rest) s = runOps rest t) ∧
  (∀ s, runOps [] s = .next s)

/-- The next step performs the operation that withFetchWord places. Derived from R118, R119. Rests on log
entries 1, 2, 6 and 7, the model's choice: the placing of an operation, the operation word, and the default
configuration and layout that State.reset has. -/
def Obligations.FetchedOperationIsPerformed : Prop :=
  (∀ nbits w i, decodeTableWord nbits w = some i → i.wellFormed = true →
    producible Params.default i = true → i ∈ nextOps (State.reset.withFetchWord nbits w)) ∧
  (∀ s nbits w, decodeTableWord nbits w = none → State.withFetchWord s nbits w = s)

/-- A step of a legal configuration always answers a next state. Derived from R16, R119, R423. Rests on log
entries 3, 6 and 20, the model's choice: the free environment after the list, the configuration inside the
state with its refusal, and the slot index fault. -/
def Obligations.StepAlwaysAnswers : Prop :=
  (∀ s : State, s.cfg.legal = true → ∃ t, step s = .next t) ∧
  (∀ s : State, s.cfg.legal = false → step s = .refused .illegalConfig)

/-- Every step keeps the invariant of the engine. Derived from R25, R148, R217, R293, R316, R319, R381,
R424, R23. Rests on log entries 5, 8, 11, 12 and 13, the model's choice: the canonical form and the blank
slot, the record of the crossings, counters as natural numbers, types without reserved codes, and the wires
as a field; no clause speaks of a record whose valid bit is 0. -/
def Obligations.StepKeepsInvariant : Prop :=
  ∀ s t : State, EngineInv s → step s = .next t → EngineInv t

/-- The invariant holds at reset. Derived from R400, R10. Rests on log entries 5, 6, 13 and 17, the model's
choice: the empty slot list, the default configuration in State.reset, and the wires and inputs before the
first line; no clause rests on the zeros of log entry 4, as each clause about a record is gated by its valid
bit. -/
def Obligations.ResetHasInvariant : Prop :=
  EngineInv State.reset

/-- The invariant holds at power-up under every legal configuration. Derived from R400, R10, R423. Rests on
log entries 5, 6, 13 and 17, the model's choice: as for ResetHasInvariant; no clause rests on the zeros of
log entry 4. -/
def Obligations.EveryLegalPowerUpHasInvariant : Prop :=
  ∀ c : Params, c.legal = true → EngineInv (State.resetWith c)

/-- Power-up leaves the values the spec gives. Derived from R26, R27, R28, R29, R31, R32, R34, R35, R36,
R37, R38, R39. Rests on log entry 6, the model's choice: the configuration inside the state. -/
def Obligations.PowerUpValues : Prop :=
  ∀ c : Params, let s := State.resetWith c
    s.ctl.state = .reset ∧ s.lc.rate = c.lowestRate ∧ s.lc.power = 0 ∧
    s.lc.codec = c.codecOf c.lowestRate ∧ s.rcfgCodec = c.codecOf c.lowestRate ∧
    s.scr.lfsr = c.seed (c.codecOf c.lowestRate) ∧ s.dsc.lfsr = c.seed (c.codecOf c.lowestRate) ∧
    s.enc.rd = .minus ∧ s.dec.rd = .minus ∧ s.dec.rdKnown = false ∧ s.ebr.rdState = .held ∧
    s.lc.errCause = .none ∧ s.ctl.cause = .none ∧
    s.cdcRx = { reqR1 := false, reqR2 := false, ack := false } ∧
    s.al.conf = 0 ∧ s.al.since = 0 ∧ s.al.offset = 0 ∧ s.al.prev = 0 ∧ s.al.locked = false ∧
    s.al.outValid = false ∧ s.dec.outValid = false ∧
    s.ebw = { wptr := 0, rgrayW1 := 0, rgrayW2 := 0, ovf := false, delPending := false } ∧
    s.sync = { ackC1 := false, ackC2 := false, wgrayC1 := 0, wgrayC2 := 0, lockedC1 := false,
               lockedC2 := false, ovfC1 := false, ovfC2 := false, sdC1 := false, sdC2 := false } ∧
    s.ctl.timer = 0 ∧ s.ctl.causeIsRate = false ∧ s.ctl.rxCfgDone = false ∧ s.ctl.errRun = 0 ∧
    s.ctl.lossRun = 0 ∧ s.ctl.phyStatus = false ∧ s.ctl.idleDone = false ∧ s.lc.pendRate = 0 ∧
    s.cdc = { req := false, cmd := 0 } ∧ s.idl = { cnt := 0, present := false } ∧
    s.ebr.rptr = 0 ∧ s.ebr.unf = false ∧ s.ebr.outValid = false ∧
    s.scr.run = false ∧ s.scr.aft = false ∧ s.scr.cnt = 0 ∧ s.scr.outValid = false ∧
    s.dsc.run = false ∧ s.dsc.aft = false ∧ s.dsc.cnt = 0 ∧ s.dsc.outValid = false ∧
    s.enc.outValid = false ∧ s.enc.kerr = false ∧
    s.pa = { rxData := 0, rxK := false, rxValid := false, rxStatus := .ok } ∧
    s.rxd = { busy := false, done := false, present := false }

/-- No operation changes the configuration, the inputs or the record of the crossings. Derived from R9, R15,
R21. Rests on log entries 1, 3, 6, 8 and 17, the model's choice: the configuration, the inputs, the record
of the crossings, the stimulus list and the counter as fields of the state. -/
def Obligations.OperationsLeaveEnvironment : Prop :=
  ∀ i s t, exec i s = .next t →
    t.cfg = s.cfg ∧ t.inp = s.inp ∧ t.cross = s.cross ∧ t.stim = s.stim ∧ t.tick = s.tick

/-- Each register group is written only by the operations the spec names for it. Derived from R24, R26, R27,
R28, R29, R31, R33, R34, R35, R36, R38, R39. Rests on log entries 2, 13 and 14, the model's choice: the row
numbers, the wires as a field, and DEC.RESET loading rcfg.codec. -/
def Obligations.RegistersHaveOneOwner : Prop :=
  ∀ i s t, exec i s = .next t →
    (t.al ≠ s.al → i.rowNumber ∈ [3, 6, 7, 8, 9, 10, 11]) ∧
    (t.dec ≠ s.dec → i.rowNumber = 5 ∨ 12 ≤ i.rowNumber ∧ i.rowNumber ≤ 21) ∧
    (t.rcfgCodec ≠ s.rcfgCodec → i = .decReset ∨ ∃ c, i = .rxcmdDecreset c) ∧
    (t.mem ≠ s.mem → ∃ r, i = .ebWrite r) ∧
    (t.sync ≠ s.sync → i = .cdcSync .core) ∧
    (t.idl ≠ s.idl → i = .idlDebounce ∨ i = .ctlHardreset) ∧
    (t.lc ≠ s.lc ∨ t.cdc ≠ s.cdc → (∃ cmd, i = .cdcReq cmd) ∨ 59 ≤ i.rowNumber ∧ i.rowNumber ≤ 77) ∧
    (t.rxd ≠ s.rxd → i = .rxdDone ∨ i = .rxdClear ∨ i = .rxdStart ∨ i = .ctlHardreset) ∧
    (t.pa ≠ s.pa → i = .paStatus ∨ i = .ctlHardreset ∨ ∃ v r, i = .paRxmap v r) ∧
    (t.enc ≠ s.enc → i = .ctlHardreset ∨ 48 ≤ i.rowNumber ∧ i.rowNumber ≤ 54) ∧
    (t.ebw ≠ s.ebw → i = .cdcSync .rx ∨ i = .rxcmdFlush ∨ 22 ≤ i.rowNumber ∧ i.rowNumber ≤ 25) ∧
    (t.ebr ≠ s.ebr → i = .ctlHardreset ∨ 27 ≤ i.rowNumber ∧ i.rowNumber ≤ 32) ∧
    (t.scr ≠ s.scr ∨ t.dsc ≠ s.dsc → i = .ctlHardreset ∨ 33 ≤ i.rowNumber ∧ i.rowNumber ≤ 47) ∧
    (t.cdcRx ≠ s.cdcRx → i = .cdcSync .rx ∨ i = .cdcAck) ∧
    (t.ctl ≠ s.ctl → i = .rxdDone ∨ 59 ≤ i.rowNumber ∧ i.rowNumber ≤ 77) ∧
    (t.net ≠ s.net → (∃ d k e, i = .paTxmap d k e) ∨ ∃ pins, i = .paCmdmap pins)

/-- An RX step changes no core_clk register and a CORE step no rx_clk register. Derived from R14, R21, R24,
R41. Rests on log entries 6 and 13, the model's choice: the configuration and the wires as fields. -/
def Obligations.AgentsWriteOwnDomains : Prop :=
  (∀ s t, rxEdge s = .next t →
    t.cfg = s.cfg ∧ t.sync = s.sync ∧ t.ctl = s.ctl ∧ t.lc = s.lc ∧ t.cdc = s.cdc ∧ t.idl = s.idl ∧
    t.ebr = s.ebr ∧ t.scr = s.scr ∧ t.dsc = s.dsc ∧ t.enc = s.enc ∧ t.pa = s.pa ∧ t.rxd = s.rxd ∧
    t.net = s.net) ∧
  (∀ s t, coreEdge s = .next t →
    t.cfg = s.cfg ∧ t.cdcRx = s.cdcRx ∧ t.rcfgCodec = s.rcfgCodec ∧ t.al = s.al ∧ t.dec = s.dec ∧
    t.ebw = s.ebw ∧ t.mem = s.mem)

/-- At an RX edge every component acts on the values before the edge. Derived from R14, R119, R228, R231,
R232, R235. Rests on log entries 8, 10 and 14, the model's choice: the samples, the order in which an edge
performs its operations, and the operations that state one effect twice. -/
def Obligations.RxEdgeIsSimultaneous : Prop :=
  ∀ s t, rxEdge s = .next t →
    (∃ u, exec (selectWrite s) s = .next u ∧ t.mem = u.mem ∧
      t.ebw = { u.ebw with rgrayW1 := s.sampleRgray, rgrayW2 := s.ebw.rgrayW1 }) ∧
    (∃ u, runOps (selectAlign s) s = .next u ∧ t.al = u.al) ∧
    (∃ u, exec (selectDecode s) s = .next u ∧ t.dec = u.dec) ∧
    t.cdcRx = { reqR1 := s.sampleReq, reqR2 := s.cdcRx.reqR1, ack := s.cdcRx.reqR2 } ∧
    t.rcfgCodec = (if s.commanded 2 then Codec.ofBit (s.sampleCmd.getLsbD 3) else s.rcfgCodec)

/-- At a CORE edge every component acts on the values before the edge. Derived from R14, R119, R228, R310,
R311, R312, R315, R318. Rests on log entries 8, 10, 13, 14 and 16, the model's choice: the samples, the
order in which an edge performs its operations, the wires as a field, CDC.REQ beside the operation that
raises the request, and where ctl.phy_status is cleared. -/
def Obligations.CoreEdgeIsSimultaneous : Prop :=
  ∀ s t, s.inp.mac.resetN = true → coreEdge s = .next t →
    ∃ n, runOps (selectNets s) s = .next n ∧
      (∃ u, exec (selectEncode n) n = .next u ∧ t.enc = u.enc) ∧
      (∃ u, runOps (selectScr n .scr) n = .next u ∧ t.scr = u.scr) ∧
      (∃ u, runOps (selectScr n .dsc) n = .next u ∧ t.dsc = u.dsc) ∧
      (∃ u, exec (selectRead n) n = .next u ∧ t.ebr = u.ebr) ∧
      (∃ u, exec .idlDebounce n = .next u ∧ t.idl = u.idl) ∧
      (∃ u, runOps (selectRxd n) n = .next u ∧ t.rxd = u.rxd) ∧
      (∃ u, exec (.paRxmap n.dsc.outValid n.dsc.out) n = .next u ∧
        t.pa.rxData = u.pa.rxData ∧ t.pa.rxK = u.pa.rxK ∧ t.pa.rxValid = u.pa.rxValid) ∧
      (∃ u, exec .paStatus n = .next u ∧ t.pa.rxStatus = u.pa.rxStatus) ∧
      (∃ u, exec (.cdcSync .core) n = .next u ∧ t.sync = u.sync) ∧
      (∃ m k u v, exec .ctlMonitor n = .next m ∧ exec .ctlCodec n = .next k ∧
        exec (selectCtl n) n = .next u ∧ exec (.ctlTick n.ctl.state) u = .next v ∧
        t.cdc = u.cdc ∧ t.lc = { u.lc with codec := k.lc.codec } ∧
        t.ctl = { u.ctl with
          errRun := m.ctl.errRun, lossRun := m.ctl.lossRun, timer := v.ctl.timer,
          phyStatus := u.ctl.phyStatus || decide (selectRxd n = [.rxdDone]) })

/-- Every operation an edge selects is well formed. Derived from R119, R163, R295, R342. Rests on log
entries 5 and 13, the model's choice: the blank slot as the head where nothing was written, and the wires as
a field. -/
def Obligations.SelectedOperationsAreWellFormed : Prop :=
  ∀ s, EngineInv s →
    (∀ i ∈ selectRx s, i.wellFormed = true) ∧ (∀ i ∈ selectNets s, i.wellFormed = true) ∧
    (∀ i ∈ selectCore s, i.wellFormed = true) ∧ (∀ i ∈ selectHardReset, i.wellFormed = true)

/-- Decoding the encoding of a well-formed operation gives it back. Derived from R90, R96, R98, R101, R102,
R118. Rests on log entry 2, the model's choice: the operation word and its row tag; the operand bits are
those of the row's format. -/
def Obligations.EncodeDecodeRoundTrip : Prop :=
  ∀ i : Instr, i.wellFormed = true → decode (toBytes 20 (encode i)) = .ok i

/-- Words written out from the formats decode to the operations they stand for. Derived from R92, R93, R94,
R96, R101, R102, R115, R118, R184. Rests on log entries 2 and 12, the model's choice: the row tag of an
operation word, the reading of bare patterns, and the refusal of reserved codes. -/
def Obligations.SampleWordsDecode : Prop :=
  decodeTableWord 16 0x1BC = some (.scr8Com .scr (SymRec.good true 0xBC)) ∧
  decodeTableWord 16 0x11C = some (.scr8Skp .scr (SymRec.good true 0x1C)) ∧
  decodeTableWord 128 0xFF00FF00FF00FF00FF00FF00FF00FF00 = some (.scr128Eieos .scr (SymRec.good true eieosPay)) ∧
  decodeTableWord 8 0xAA = some (.scr128Skp .scr (SymRec.good true 0xAA)) ∧
  decodeTableWord 160 (2 ^ 152 * 6 + 0b1100) = some (.rxcmdDecreset .c128b130b) ∧
  decodeTableWord 160 (2 ^ 152 * 4 + 0b0111) = some .rxcmdRealign ∧
  decodeTableWord 160 (2 ^ 152 * 60 + 0b0011011) = some .ctlHardreset ∧
  decodeTableWord 8 0b1001011 = some .rxdStart ∧
  decodeTableWord 8 0b1000011 = some .rxdStart ∧
  decodeTableWord 136 (4 * 0x5A + 0b10) = some (.dec130D 0x5A) ∧
  decodeTableWord 136 (4 * 0x5A + 0b01) = some (.dec130Os 0x5A) ∧
  decodeTableWord 136 (4 * 0xFF00FF00FF00FF00FF00FF00FF00FF00 + 0b01) = some (.dec130Os eieosPay) ∧
  decodeTableWord 160 (2 ^ 152 * 51 + 0x1BC) = some (.enc10K 0xBC) ∧
  decodeTableWord 160 (2 ^ 152 * 72 + 0b1100000) = some (.ctlRate 2) ∧
  decodeTableWord 160 (2 ^ 152 * 26 + 3 * 2 ^ 128) = none ∧
  decodeTableWord 160 (2 ^ 152 * 73 + 7) = none

/-- dec_col is the exact inverse of enc10 in each disparity column. Formalises R164. -/
def Obligations.DecodeColumnIsExactInverse : Prop :=
  ∀ (rd : Rd) (v : Line10) (kb : Bool × Byte),
    Code10.decCol rd v = some kb ↔
      ((kb.1 = false ∨ Code10.isK kb.2 = true) ∧ (Code10.enc10 kb.1 kb.2 rd).1 = v)

/-- Every code word has disparity 0, +2 or -2, and an unbalanced one flips the running disparity. Derived
from R153, R157, R163, R168. -/
def Obligations.CodeWordDisparityBalanced : Prop :=
  ∀ rd ∈ [Rd.minus, Rd.plus], ∀ kb ∈ Code10.symbols,
    let w := Code10.enc10 kb.1 kb.2 rd
    Code10.popcount 10 w.1.toNat ∈ [4, 5, 6] ∧
    (Code10.popcount 10 w.1.toNat = 6 → rd = .minus ∧ w.2 = .plus) ∧
    (Code10.popcount 10 w.1.toNat = 4 → rd = .plus ∧ w.2 = .minus) ∧
    Code10.lineRd rd w.1 = w.2

/-- The decoder recovers what the encoder sends and keeps its disparity. Derived from R157, R164, R166,
R168. -/
def Obligations.DecoderFollowsEncoder : Prop :=
  ∀ (s : State) (k : Bool) (b : Byte), k = false ∨ Code10.isK b = true → s.dec.rdKnown = true →
    exec (.dec10Ok (Code10.enc10 k b s.dec.rd).1) s =
      .next (s.setDec
        { rd := (Code10.enc10 k b s.dec.rd).2, rdKnown := true,
          out := { data := b.setWidth 128, tag := if k then .control else .data, ek := .none, dl := false,
                   ins := false },
          outValid := true })

/-- The block decoder recovers every block, sees every one-bit header error, and misses payload errors.
Formalises R190. -/
def Obligations.BlockCodeRoundTrip : Prop :=
  ∀ (s : State) (k : Bool) (d e : Payload) (h : BitVec 2),
    exec (selectDec130 (enc130 k d ^^^ ((e.setWidth 130 <<< 2) ||| h.setWidth 130))) s =
      .next (s.setDec { s.dec with
        outValid := true
        out :=
          if h = 0 then
            { data := d ^^^ e, tag := if k then .control else .data, ek := .none, dl := false, ins := false }
          else if h = 3 then
            { data := d ^^^ e, tag := if k then .data else .control, ek := .none, dl := false, ins := false }
          else { data := 0, tag := .error, ek := .code, dl := false, ins := false } })

/-- Gray coding is invertible, an increment changes one bit, and a sample of such a change is old or new.
Derived from R18, R209, R226, R239, R424. Rests on log entries 8 and 11, the model's choice: the sample as a
function of an old value and a choice, and Gray codes as natural numbers. -/
def Obligations.GrayCodeIsSafe : Prop :=
  (∀ n x, x < 2 ^ n → gray x < 2 ^ n ∧ ungray n (gray x) = x ∧ ungray n x < 2 ^ n ∧
    gray (ungray n x) = x) ∧
  (∀ n x, 1 ≤ n → x < 2 ^ n → ∃ i, i < n ∧ gray x ^^^ gray ((x + 1) % 2 ^ n) = 2 ^ i) ∧
  (∀ moved mask old now i, now ^^^ old = 0 ∨ now ^^^ old = 2 ^ i →
    sampleNat moved mask old now = old ∨ sampleNat moved mask old now = now) ∧
  (∀ mask old now, sampleNat false mask old now = now) ∧
  (∀ moved pick old now : Bool, sampleBit moved pick old now = old ∨ sampleBit moved pick old now = now)

/-- A slot write is read back and touches no other slot. Derived from R18, R41, R66, R68. Rests on log
entries 5 and 20, the model's choice: the canonical form, and slots as the unit of memory. -/
def Obligations.SlotWriteThenRead : Prop :=
  ∀ (m : Memory) (i j : Nat) (v : Slot), m.wf = true →
    (m.write i v).read j = if j = i then v else m.read j

/-- Two canonical slot arrays with the same contents are the same data. Derived from R41, R401. Rests on log
entries 5 and 20, the model's choice: the canonical form, and slots as the unit of memory. -/
def Obligations.CanonicalMemoriesEqual : Prop :=
  ∀ m n : Memory, m.wf = true → n.wf = true → (∀ i, m.read i = n.read i) → m = n

/-- CDC.SYNC, CDC.REQ and CDC.ACK: their whole effect. Derived from R228, R230, R231. Rests on log entries 8
and 14, the model's choice: the samples, and CDC.REQ as an operation beside the one that raises the request.
-/
def Obligations.BridgeResults : Prop :=
  ∀ s : State,
    exec (.cdcSync .rx) s = .next { s with
      cdcRx := { reqR1 := s.sampleReq, reqR2 := s.cdcRx.reqR1, ack := s.cdcRx.ack }
      ebw := { s.ebw with rgrayW1 := s.sampleRgray, rgrayW2 := s.ebw.rgrayW1 } } ∧
    exec (.cdcSync .core) s = .next { s with
      sync := { ackC1 := s.sampleAck, ackC2 := s.sync.ackC1, wgrayC1 := s.sampleWgray,
                wgrayC2 := s.sync.wgrayC1, lockedC1 := s.sampleLocked, lockedC2 := s.sync.lockedC1,
                ovfC1 := s.sampleOvf, ovfC2 := s.sync.ovfC1, sdC1 := s.sampleSigdet,
                sdC2 := s.sync.sdC1 } } ∧
    (∀ cmd, exec (.cdcReq cmd) s = .next { s with cdc := { req := true, cmd := cmd } }) ∧
    exec .cdcAck s = .next { s with cdcRx := { s.cdcRx with ack := s.cdcRx.reqR2 } }

/-- The three RXCTL command bits: their whole effect. Derived from R101, R233, R234, R235. Rests on log
entry 14, the model's choice: these operations beside AL.RESET, EB.FLUSHW and DEC.RESET. -/
def Obligations.CommandBitResults : Prop :=
  ∀ s : State,
    exec .rxcmdRealign s = .next { s with
      al := { prev := BitVec.ofNat 130 (s.inp.rxWord.toNat % 2 ^ s.rcfgCodec.lineWidth), offset := 0, conf := 0,
              locked := false, since := 0, outSym := 0, outValid := false } } ∧
    exec .rxcmdFlush s = .next { s with ebw := { s.ebw with wptr := 0, ovf := false, delPending := false } } ∧
    (∀ c, exec (.rxcmdDecreset c) s = .next { s with
      rcfgCodec := c, dec := { s.dec with rd := .minus, rdKnown := false, outValid := false } })

/-- The aligner operations: their whole effect. Derived from R135, R136, R137, R138, R139, R141, R142. Rests
on log entry 21, the model's choice: the symbol at an offset that is not below W; below W it is the slice of
R142. -/
def Obligations.AlignerResults : Prop :=
  ∀ (s : State) (raw : Block),
    let w := s.rcfgCodec.lineWidth
    let word := BitVec.ofNat 130 (raw.toNat % 2 ^ w)
    let win := s.al.prev.toNat % 2 ^ w + 2 ^ w * (raw.toNat % 2 ^ w)
    let sym := fun o : Nat => BitVec.ofNat 130 (win / 2 ^ o % 2 ^ w)
    let lock := fun conf : Nat =>
      if s.cfg.lockThreshold ≤ conf then true else if conf = 0 then false else s.al.locked
    exec .alReset s = .next { s with
      al := { prev := BitVec.ofNat 130 (s.inp.rxWord.toNat % 2 ^ w), offset := 0, conf := 0, locked := false,
              since := 0, outSym := 0, outValid := false } } ∧
    (∀ o rest, hits s.rcfgCodec win = o :: rest → exec (.alStepAcquire raw) s = .next { s with
      al := { prev := word, offset := o, conf := 1, locked := lock 1, since := 0, outSym := sym o,
              outValid := lock 1 } }) ∧
    exec (.alStepHit raw) s = .next { s with
      al := { prev := word, offset := s.al.offset, conf := min (s.al.conf + 1) s.cfg.confMax,
              locked := lock (min (s.al.conf + 1) s.cfg.confMax), since := 0, outSym := sym s.al.offset,
              outValid := lock (min (s.al.conf + 1) s.cfg.confMax) } } ∧
    exec (.alStepMiss raw) s = .next { s with
      al := { prev := word, offset := s.al.offset, conf := s.al.conf - 1, locked := lock (s.al.conf - 1),
              since := s.al.since + 1, outSym := sym s.al.offset, outValid := lock (s.al.conf - 1) } } ∧
    exec (.alStepNone raw) s = .next { s with
      al := { prev := word, offset := s.al.offset, conf := s.al.conf, locked := lock s.al.conf,
              since := if 0 < s.al.conf then s.al.since + 1 else s.al.since, outSym := sym s.al.offset,
              outValid := lock s.al.conf } }

/-- AL.STEP.TIMEOUT drops the hypothesis when the time has reached ALIGN_TIMEOUT. Derived from R140, R141,
R142. -/
def Obligations.AlignerTimeoutResult : Prop :=
  ∀ s : State, 1 ≤ s.cfg.lockThreshold →
    (s.cfg.alignTimeout ≤ s.al.since → exec .alStepTimeout s = .next { s with
      al := { s.al with conf := 0, since := 0, locked := false, outValid := false } }) ∧
    (s.al.since < s.cfg.alignTimeout → exec .alStepTimeout s = .next s)

/-- LOCKED rises only at the threshold, falls only at confidence zero, and survives one corrupted marker.
Derived from R138, R139, R141, R142, R143, R148. Rests on log entry 11, the model's choice: counters as
natural numbers. -/
def Obligations.LockHysteresis : Prop :=
  ∀ s t, EngineInv s → rxEdge s = .next t →
    (s.al.locked = false → t.al.locked = true → s.cfg.lockThreshold ≤ t.al.conf) ∧
    (s.al.locked = true → t.al.locked = false → t.al.conf = 0) ∧
    t.al.outValid = t.al.locked ∧
    (s.commanded 0 = false → s.al.locked = true → 2 ≤ s.al.conf → s.al.since + 1 < s.cfg.alignTimeout →
      t.al.locked = true ∧ t.al.offset = s.al.offset ∧ s.al.conf ≤ t.al.conf + 1)

/-- DEC10 with known disparity: the three cases. Derived from R166, R168. -/
def Obligations.DecodeKnownResults : Prop :=
  ∀ (s : State) (v : Line10),
    let d := fun (r : SymRec) => ({ rd := Code10.subRd 4 (Code10.subRd 6 s.dec.rd (v.toNat % 64)) (v.toNat / 64),
                                    rdKnown := true, out := r, outValid := true } : Decoder)
    (∀ k b, Code10.decCol s.dec.rd v = some (k, b) → exec (.dec10Ok v) s = .next { s with
      dec := d { data := b.setWidth 128, tag := if k then .control else .data, ek := .none, dl := false,
                 ins := false } }) ∧
    (∀ k b, Code10.decCol s.dec.rd v = none → Code10.decCol (Code10.flip s.dec.rd) v = some (k, b) →
      exec (.dec10Disp v) s = .next { s with
        dec := d { data := b.setWidth 128, tag := .error, ek := .disp, dl := false, ins := false } }) ∧
    (Code10.decCol s.dec.rd v = none → Code10.decCol (Code10.flip s.dec.rd) v = none →
      exec (.dec10Code v) s = .next { s with
        dec := d { data := 0, tag := .error, ek := .code, dl := false, ins := false } })

/-- DEC10.ACQ: the four cases of an unknown disparity. Derived from R167. -/
def Obligations.DecodeAcquireResults : Prop :=
  ∀ (s : State) (v : Line10),
    let good := fun (kb : Bool × Byte) =>
      ({ data := kb.2.setWidth 128, tag := if kb.1 then .control else .data, ek := .none, dl := false,
         ins := false } : SymRec)
    let after := fun rd => Code10.subRd 4 (Code10.subRd 6 rd (v.toNat % 64)) (v.toNat / 64)
    (∀ a b, Code10.decCol .minus v = some a → Code10.decCol .plus v = some b →
      exec (.dec10Acq v) s = .next { s with dec := { s.dec with out := good a, outValid := true } }) ∧
    (∀ a, Code10.decCol .minus v = some a → Code10.decCol .plus v = none →
      exec (.dec10Acq v) s = .next { s with
        dec := { rd := after .minus, rdKnown := true, out := good a, outValid := true } }) ∧
    (∀ b, Code10.decCol .minus v = none → Code10.decCol .plus v = some b →
      exec (.dec10Acq v) s = .next { s with
        dec := { rd := after .plus, rdKnown := true, out := good b, outValid := true } }) ∧
    (Code10.decCol .minus v = none → Code10.decCol .plus v = none →
      exec (.dec10Acq v) s = .next { s with
        dec := { s.dec with
          out := { data := 0, tag := .error, ek := .code, dl := false, ins := false }, outValid := true } })

/-- DEC.RESET, DEC.BUBBLE and the block decoder: their whole effect. Derived from R169, R170, R180, R185,
R186, R187. Rests on log entry 14, the model's choice: DEC.RESET loading rcfg.codec. -/
def Obligations.DecodeBlockResults : Prop :=
  ∀ (s : State) (p : Payload),
    let put := fun (r : SymRec) => ({ s.dec with out := r, outValid := true } : Decoder)
    exec .decReset s = .next { s with
      rcfgCodec := if s.sampleCmd.getLsbD 3 then .c128b130b else .c8b10b
      dec := { s.dec with rd := .minus, rdKnown := false, outValid := false } } ∧
    exec .decBubble s = .next { s with dec := { s.dec with outValid := false } } ∧
    exec (.dec130D p) s = .next { s with
      dec := put { data := p, tag := .data, ek := .none, dl := false, ins := false } } ∧
    exec (.dec130Os p) s = .next { s with
      dec := put { data := p, tag := .control, ek := .none, dl := false, ins := false } } ∧
    exec (.dec130Badsync00 p) s = .next { s with
      dec := put { data := 0, tag := .error, ek := .code, dl := false, ins := false } } ∧
    exec (.dec130Badsync11 p) s = .next { s with
      dec := put { data := 0, tag := .error, ek := .code, dl := false, ins := false } }

/-- An undecodable line symbol is delivered as ERROR, never as DATA. Derived from R25, R166, R167, R187. -/
def Obligations.UndecodableIsNeverData : Prop :=
  ∀ s t, rxEdge s = .next t → s.commanded 2 = false → s.al.outValid = true →
    (s.rcfgCodec = .c8b10b → Code10.decCol .minus s.lineSymbol = none →
      Code10.decCol .plus s.lineSymbol = none →
      t.dec.outValid = true ∧ t.dec.out.tag = .error ∧ t.dec.out.ek = .code ∧ t.dec.out.data = 0) ∧
    (s.rcfgCodec = .c128b130b → s.al.outSym.toNat % 4 = 0 ∨ s.al.outSym.toNat % 4 = 3 →
      t.dec.outValid = true ∧ t.dec.out.tag = .error ∧ t.dec.out.ek = .code ∧ t.dec.out.data = 0) ∧
    (s.rcfgCodec = .c8b10b → s.dec.rdKnown = true → Code10.decCol s.dec.rd s.lineSymbol = none →
      (Code10.decCol (Code10.flip s.dec.rd) s.lineSymbol).isSome = true →
      t.dec.outValid = true ∧ t.dec.out.tag = .error ∧ t.dec.out.ek = .disp)

/-- The write-side operations that store nothing: their whole effect. Derived from R200, R201, R202, R203.
-/
def Obligations.WriteSideResults : Prop :=
  ∀ (s : State) (r : SymRec),
    exec .ebFlushw s = .next { s with ebw := { s.ebw with wptr := 0, ovf := false, delPending := false } } ∧
    exec (.ebDelete r) s = .next { s with ebw := { s.ebw with delPending := true } } ∧
    exec (.ebOverflow r) s = .next { s with ebw := { s.ebw with ovf := true } } ∧
    exec .ebIdlew s = .next s

/-- EB.WRITE stores one slot, advances the pointer and moves no other slot. Derived from R199, R41, R66,
R73. Rests on log entries 5 and 20, the model's choice: the canonical form, and slots as the unit of memory.
-/
def Obligations.SlotWriteResult : Prop :=
  ∀ (s : State) (r : SymRec), 0 < s.cfg.bufferDepth → s.mem.wf = true →
    ∃ t, exec (.ebWrite r) s = .next t ∧
      t = { s with
        mem := t.mem
        ebw := { s.ebw with wptr := (s.ebw.wptr + 1) % 2 ^ s.cfg.pb, delPending := false } } ∧
      t.mem.wf = true ∧
      ∀ a, t.readSlot a =
        if a = s.ebw.wptr % s.cfg.bufferDepth then
          { data := r.data, tag := r.tag, ek := r.ek, dl := s.ebw.delPending }
        else s.readSlot a

/-- The read-side operations: their whole effect. Derived from R205, R206, R207, R208, R210, R211. -/
def Obligations.ReadSideResults : Prop :=
  ∀ (s : State) (h : Slot),
    exec .ebFlushr s = .next { s with
      ebr := { s.ebr with rdState := .held, rptr := 0, unf := false, outValid := false } } ∧
    exec .ebPrime s = .next { s with
      ebr := { s.ebr with
        outValid := false, rdState := if s.sync.ackC2 then s.ebr.rdState else .priming } } ∧
    exec .ebStart s = .next { s with
      ebr := { s.ebr with
        outValid := false
        rdState := if s.cfg.bufferDepth / 2 - 2 ≤ s.fillR ∧ s.fillR ≤ s.cfg.bufferDepth then .running
                   else s.ebr.rdState } } ∧
    exec .ebUnderflow s = .next { s with ebr := { s.ebr with unf := true, outValid := false } } ∧
    exec (.ebInsert h) s = .next { s with
      ebr := { s.ebr with
        outValid := true
        out := { data := h.data, tag := h.tag, ek := h.ek, dl := false, ins := true } } } ∧
    exec (.ebRead h) s = .next { s with
      ebr := { s.ebr with
        outValid := true
        rptr := (s.ebr.rptr + 1) % 2 ^ s.cfg.pb
        out := { data := h.data, tag := h.tag, ek := h.ek, dl := h.dl, ins := false } } }

/-- At depth minus one a record is stored without overflow, and the next one overflows. Formalises R212. -/
def Obligations.BoundaryWriteThenOverflow : Prop :=
  ∀ s : State, EngineInv s → s.commanded 1 = false → s.dec.outValid = true →
    s.fillW = s.cfg.bufferDepth - 1 →
    selectWrite s = .ebWrite s.dec.out ∧
    ∃ t, exec (.ebWrite s.dec.out) s = .next t ∧ t.ebw.ovf = s.ebw.ovf ∧ t.fillW = s.cfg.bufferDepth ∧
      (s.ebw.rgrayW2 = gray s.ebr.rptr → s.occ = s.cfg.bufferDepth - 1 ∧ t.occ = s.cfg.bufferDepth) ∧
      t.readSlot (s.ebw.wptr % s.cfg.bufferDepth) =
        { data := s.dec.out.data, tag := s.dec.out.tag, ek := s.dec.out.ek, dl := s.ebw.delPending } ∧
      ∀ r, let u := t.setDec { t.dec with out := r, outValid := true }
        selectWrite u = .ebOverflow r ∧
        exec (.ebOverflow r) u = .next (u.setEbw { u.ebw with ovf := true })

/-- Only fillers are dropped below capacity or repeated. Derived from R74, R196, R198, R204. -/
def Obligations.OnlyFillersAddedOrDropped : Prop :=
  ∀ s : State,
    (∀ r, selectWrite s = .ebDelete r →
      r = s.dec.out ∧ isFiller r.tag r.data s.rcfgCodec = true ∧
      s.cfg.bufferDepth / 2 + 4 ≤ s.fillW ∧ s.fillW ≤ s.cfg.bufferDepth - 2) ∧
    (∀ r, selectWrite s = .ebOverflow r → r = s.dec.out ∧ s.cfg.bufferDepth ≤ s.fillW) ∧
    (∀ h, selectRead s = .ebInsert h →
      h = s.head ∧ isFiller h.tag h.data s.lc.codec = true ∧ 1 ≤ s.fillR ∧
      s.fillR ≤ s.cfg.bufferDepth / 2 - 4) ∧
    (∀ h, selectRead s = .ebRead h → h = s.head ∧ 1 ≤ s.fillR ∧ s.fillR ≤ s.cfg.bufferDepth)

/-- OVERFLOW and UNDERFLOW stay set until the flush or reset the spec names. Derived from R40, R201, R211.
-/
def Obligations.BufferFlagsAreSticky : Prop :=
  (∀ s t, rxEdge s = .next t →
    (s.commanded 1 = false → s.ebw.ovf = true → t.ebw.ovf = true) ∧
    (s.ebw.ovf = false → t.ebw.ovf = true → selectWrite s = .ebOverflow s.dec.out)) ∧
  (∀ s t, s.inp.mac.resetN = true → coreEdge s = .next t →
    (s.cdc.req = false ∨ s.cdc.cmd.getLsbD 1 = false → s.ebr.unf = true → t.ebr.unf = true) ∧
    (s.ebr.unf = false → t.ebr.unf = true → selectRead s = .ebUnderflow))

/-- SCR.STOP, SCR.START, SCR.BUBBLE and OST.STEP: their whole effect. Derived from R252, R253, R254. Rests
on log entry 15, the model's choice: the seed as the parameter. -/
def Obligations.ScramblerControlResults : Prop :=
  ∀ (p : ScrInst) (s : State) (r : SymRec),
    exec (.scrStop p) s = .next (s.setInst p
      { s.inst p with run := false, lfsr := s.cfg.seed s.lc.codec, aft := false, cnt := 0,
                      outValid := false }) ∧
    exec (.scrStart p) s = .next (s.setInst p { s.inst p with run := true }) ∧
    exec (.scrBubble p) s = .next (s.setInst p { s.inst p with outValid := false }) ∧
    exec (.ostStep p r) s = .next (s.setInst p
      (if r.tag = .control ∧ r.byte = 0xBC then { s.inst p with aft := true, cnt := 0 }
       else if (s.inst p).aft = true then
         (if r.tag = .control ∧ r.byte ≠ 0xF7 ∧ r.byte ≠ 0xFC then { s.inst p with aft := false, cnt := 0 }
          else { s.inst p with aft := false, cnt := 14 })
       else { s.inst p with aft := false, cnt := (s.inst p).cnt - 1 }))

/-- The scrambler operations of codec C8B10B: their whole effect. Derived from R255, R256, R257, R258, R259,
R260, R269. Rests on log entry 15, the model's choice: the seed, polynomial and length as parameters where
R255 writes 0xFFFF and lfsr[15:0]. -/
def Obligations.ScramblerByteResults : Prop :=
  ∀ (p : ScrInst) (s : State) (r : SymRec),
    let ks := keystream s.cfg.scr8 8 ((s.inst p).lfsr.toNat % 2 ^ s.cfg.scr8.len)
    let put := fun (out : SymRec) (l : Lfsr) =>
      s.setInst p { s.inst p with lfsr := l, run := true, out := out, outValid := true }
    exec (.scr8Com p r) s = .next (put r (BitVec.ofNat 23 s.cfg.scr8.seed)) ∧
    exec (.scr8Skp p r) s = .next (put r (s.inst p).lfsr) ∧
    exec (.scr8Ctl p r) s = .next (put r (BitVec.ofNat 23 ks.1)) ∧
    exec (.scr8Bypass p r) s = .next (put r (BitVec.ofNat 23 ks.1)) ∧
    exec (.scr8Err p r) s = .next (put r (BitVec.ofNat 23 ks.1)) ∧
    exec (.scr8Data p r) s =
      .next (put { r with data := r.data ^^^ BitVec.ofNat 128 ks.2 } (BitVec.ofNat 23 ks.1))

/-- The scrambler operations of codec C128B130B: their whole effect. Derived from R261, R262, R263, R264,
R265, R269. Rests on log entry 15, the model's choice: the seed, polynomial and length as parameters where
R262 writes 0x1DBFBC. -/
def Obligations.ScramblerBlockResults : Prop :=
  ∀ (p : ScrInst) (s : State) (r : SymRec),
    let ks := keystream s.cfg.scr128 128 ((s.inst p).lfsr.toNat % 2 ^ s.cfg.scr128.len)
    let put := fun (out : SymRec) (l : Lfsr) =>
      s.setInst p { s.inst p with lfsr := l, run := true, out := out, outValid := true }
    exec (.scr128Eieos p r) s = .next (put r (BitVec.ofNat 23 s.cfg.scr128.seed)) ∧
    exec (.scr128Skp p r) s = .next (put r (s.inst p).lfsr) ∧
    exec (.scr128Os p r) s = .next (put r (BitVec.ofNat 23 ks.1)) ∧
    exec (.scr128Err p r) s = .next (put r (BitVec.ofNat 23 ks.1)) ∧
    exec (.scr128Data p r) s =
      .next (put { r with data := r.data ^^^ BitVec.ofNat 128 ks.2 } (BitVec.ofNat 23 ks.1))

/-- Scrambling and descrambling a stream gives it back. Derived from R251, R254, R266, R269. Rests on log
entries 13 and 15, the model's choice: the wires as a field, and the scrambler parameters. -/
def Obligations.ScramblerRoundTrip : Prop :=
  ∀ (s : State) (rs : List SymRec),
    s.ctl.state = .configure ∨ s.ctl.state = .active →
    s.scr.lfsr = s.dsc.lfsr → s.scr.aft = s.dsc.aft → s.scr.cnt = s.dsc.cnt →
    (∃ out, passAll .scr s rs = some out ∧ passAll .dsc s out = some rs) ∧
    (∃ out, passAll .dsc s rs = some out ∧ passAll .scr s out = some rs)

/-- A scrambler changes nothing but the data of DATA records. Formalises R269. -/
def Obligations.ScramblerTouchesDataOnly : Prop :=
  ∀ (p : ScrInst) (s t : State) (r : SymRec) (i : Instr),
    i ∈ [.scrStop p, .scrStart p, .scrBubble p, .ostStep p r, .scr8Com p r, .scr8Skp p r, .scr8Ctl p r,
         .scr8Bypass p r, .scr8Err p r, .scr128Eieos p r, .scr128Skp p r, .scr128Os p r, .scr128Err p r] ∨
      r.tag = .data ∧ i ∈ [.scr8Data p r, .scr128Data p r] →
    exec i s = .next t →
    (t.inst p).out = (s.inst p).out ∨
      ((t.inst p).out.tag = r.tag ∧ (t.inst p).out.ek = r.ek ∧ (t.inst p).out.dl = r.dl ∧
        (t.inst p).out.ins = r.ins ∧ (r.tag ≠ .data → (t.inst p).out.data = r.data))

/-- The encoder operations: their whole effect. Derived from R158, R159, R160, R161, R162, R181, R182. -/
def Obligations.EncoderResults : Prop :=
  ∀ (s : State) (b : Byte) (d : Payload),
    let send := fun (k : Bool) (x : Byte) (e : Bool) =>
      ({ rd := (Code10.enc10 k x s.enc.rd).2, outWord := (Code10.enc10 k x s.enc.rd).1.setWidth 130,
         outValid := true, kerr := e } : Encoder)
    exec .encReset s = .next { s with enc := { s.enc with rd := .minus, outValid := false, kerr := false } } ∧
    exec .encBubble s = .next { s with enc := { s.enc with outValid := false, kerr := false } } ∧
    exec (.enc10D b) s = .next { s with enc := send false b false } ∧
    exec (.enc10K b) s = .next { s with enc := send true b false } ∧
    exec (.enc10Kinv b) s = .next { s with enc := send true 0xFE true } ∧
    exec (.enc130D d) s = .next { s with
      enc := { s.enc with outWord := BitVec.ofNat 130 (d.toNat * 4 + 2), outValid := true, kerr := false } } ∧
    exec (.enc130Os d) s = .next { s with
      enc := { s.enc with outWord := BitVec.ofNat 130 (d.toNat * 4 + 1), outValid := true, kerr := false } }

/-- IDL.DEBOUNCE: its whole effect. Derived from R276. -/
def Obligations.DebounceResult : Prop :=
  ∀ s : State,
    (s.sync.sdC2 = s.idl.present →
      exec .idlDebounce s = .next { s with idl := { cnt := 0, present := s.idl.present } }) ∧
    (s.sync.sdC2 ≠ s.idl.present → s.cfg.sigdetDebounce ≤ s.idl.cnt + 1 →
      exec .idlDebounce s = .next { s with idl := { cnt := 0, present := s.sync.sdC2 } }) ∧
    (s.sync.sdC2 ≠ s.idl.present → s.idl.cnt + 1 < s.cfg.sigdetDebounce →
      exec .idlDebounce s = .next { s with idl := { cnt := s.idl.cnt + 1, present := s.idl.present } })

/-- RXD.START, RXD.DONE and RXD.CLEAR: their whole effect. Derived from R280, R281, R282. -/
def Obligations.ReceiverDetectResults : Prop :=
  ∀ s : State,
    exec .rxdStart s = .next { s with rxd := { s.rxd with busy := true } } ∧
    exec .rxdDone s = .next { s with
      rxd := { busy := false, done := true, present := s.inp.rxdetPresent }
      ctl := { s.ctl with phyStatus := true } } ∧
    exec .rxdClear s = .next { s with rxd := { s.rxd with done := false } }

/-- CTL.HARDRESET gives every register of the core_clk domain its reset value. Derived from R294, R32, R34,
R35, R36, R37, R38, R39, R402, R401. Rests on log entries 15 and 18, the model's choice: the seed as the
parameter, and eb.out, scr.out, dsc.out and enc.out_word kept where R35 to R37 say unspecified. -/
def Obligations.HardResetResult : Prop :=
  ∀ s : State,
    let rate : RateCode := s.cfg.lowestRate
    let sc := fun (v : Scrambler) =>
      ({ lfsr := s.cfg.seed (s.cfg.codecOf rate), run := false, aft := false, cnt := 0, out := v.out,
         outValid := false } : Scrambler)
    exec .ctlHardreset s = .next { s with
      ctl := { state := .reset, timer := 0, cause := .none, causeIsRate := false, rxCfgDone := false,
               errRun := 0, lossRun := 0, phyStatus := false, idleDone := false }
      lc := { rate := rate, power := 0, codec := s.cfg.codecOf rate, pendRate := 0, errCause := .none }
      cdc := { req := false, cmd := 0 }
      idl := { cnt := 0, present := false }
      ebr := { rptr := 0, rdState := .held, unf := false, out := s.ebr.out, outValid := false }
      scr := sc s.scr
      dsc := sc s.dsc
      enc := { rd := .minus, outWord := s.enc.outWord, outValid := false, kerr := false }
      pa := { rxData := 0, rxK := false, rxValid := false, rxStatus := .ok }
      rxd := { busy := false, done := false, present := false } }

/-- The controller operations of a normal bring-up and power state: their whole effect. Derived from R298,
R299, R300, R301, R302, R303, R304, R305, R306, R318, R315. Rests on log entries 13 and 16, the model's
choice: the wires as a field, and the clearing of ctl.phy_status by each operation where R315 and R318 give
it to the step. -/
def Obligations.ControllerStateResults : Prop :=
  ∀ s : State,
    exec .ctlResetReq s = .next { s with
      ctl := { s.ctl with phyStatus := false }
      cdc := { req := true, cmd := BitVec.ofNat 4 (7 + 8 * (s.cfg.codecOf s.lc.rate).num) } } ∧
    exec .ctlResetDone s = .next { s with
      ctl := { s.ctl with phyStatus := false, rxCfgDone := true, state := .detect } } ∧
    exec .ctlDetectOk s = .next { s with
      ctl := { s.ctl with phyStatus := false, state := .align }, cdc := { s.cdc with req := false } } ∧
    exec .ctlAlignOk s = .next { s with ctl := { s.ctl with phyStatus := false, state := .configure } } ∧
    exec .ctlConfigureOk s = .next { s with ctl := { s.ctl with phyStatus := true, state := .active } } ∧
    exec .ctlPowerdown s = .next { s with
      ctl := { s.ctl with phyStatus := false, idleDone := false, state := .idle }
      lc := { s.lc with power := s.net.powerdown }
      cdc := { req := true, cmd := BitVec.ofNat 4 (2 + 8 * (s.cfg.codecOf s.lc.rate).num) } } ∧
    exec .ctlIdleAck s = .next { s with ctl := { s.ctl with idleDone := true, phyStatus := true } } ∧
    exec .ctlIdleChange s = .next { s with
      ctl := { s.ctl with phyStatus := true }, lc := { s.lc with power := s.net.powerdown } } ∧
    exec .ctlPowerup s = .next { s with
      ctl := { s.ctl with phyStatus := false, state := .configure }
      lc := { s.lc with power := 0 }
      cdc := { s.cdc with req := false } } ∧
    exec .ctlStay s = .next { s with ctl := { s.ctl with phyStatus := false } }

/-- Taking a structural error or a rate command, and the return from TRANSITION: their whole effect. Derived
from R296, R297, R307, R308, R309, R370, R374, R315, R318. Rests on log entry 16, the model's choice: the
clearing of ctl.phy_status by each operation where R315 and R318 give it to the step. -/
def Obligations.EscalationResults : Prop :=
  ∀ s : State,
    (∀ c, exec (.ctlFatal c) s = .next { s with
      ctl := { s.ctl with phyStatus := false, cause := c, causeIsRate := false, state := .transition } }) ∧
    exec .ctlTimeout s = .next { s with
      ctl := { s.ctl with
        phyStatus := false, cause := .commandTimeout, causeIsRate := false, state := .transition } } ∧
    (∀ r, exec (.ctlRate r) s = .next { s with
      lc := { s.lc with pendRate := r }
      ctl := { s.ctl with phyStatus := false, causeIsRate := true, state := .transition } }) ∧
    exec .ctlTransitionClose s = .next { s with
      ctl := { s.ctl with phyStatus := false }, cdc := { s.cdc with req := false } } ∧
    (s.ctl.causeIsRate = true → exec .ctlTransitionDone s = .next { s with
      lc := { s.lc with rate := s.lc.pendRate, power := 0 }
      ctl := { s.ctl with phyStatus := false, rxCfgDone := false, state := .reset } }) ∧
    (s.ctl.causeIsRate = false → exec .ctlTransitionDone s = .next { s with
      lc := { s.lc with errCause := s.ctl.cause, power := 0 }
      ctl := { s.ctl with phyStatus := false, rxCfgDone := false, state := .reset } })

/-- CTL.TICK, CTL.MONITOR and CTL.CODEC: their whole effect. Derived from R310, R311, R312. -/
def Obligations.ControllerCounterResults : Prop :=
  ∀ s : State,
    (∀ q, s.ctl.state = q → q = .detect ∨ q = .align ∨ q = .configure →
      exec (.ctlTick q) s = .next { s with ctl := { s.ctl with timer := s.ctl.timer + 1 } }) ∧
    (∀ q, s.ctl.state ≠ q ∨ (q ≠ .detect ∧ q ≠ .align ∧ q ≠ .configure) →
      exec (.ctlTick q) s = .next { s with ctl := { s.ctl with timer := 0 } }) ∧
    exec .ctlMonitor s = .next { s with
      ctl := { s.ctl with
        errRun :=
          if s.ctl.state = .active then
            (if s.ebr.outValid = true then
              (if s.ebr.out.tag = .error then min (s.ctl.errRun + 1) s.cfg.decodeErrLimit else 0)
             else s.ctl.errRun)
          else 0
        lossRun :=
          if s.ctl.state = .configure ∨ s.ctl.state = .active then
            (if s.sync.lockedC2 = true then 0 else min (s.ctl.lossRun + 1) s.cfg.alignLossLimit)
          else 0 } } ∧
    (s.ctl.state = .reset ∨ s.ctl.state = .transition →
      exec .ctlCodec s = .next { s with lc := { s.lc with codec := s.cfg.codecOf s.lc.rate } }) ∧
    (s.ctl.state ≠ .reset → s.ctl.state ≠ .transition → exec .ctlCodec s = .next s)

/-- Each Link Configuration register is written only by the operations the spec names. Formalises R293. -/
def Obligations.LinkConfigurationWriters : Prop :=
  ∀ i s t, exec i s = .next t →
    (t.lc.rate ≠ s.lc.rate → i = .ctlTransitionDone ∨ i = .ctlHardreset) ∧
    (t.lc.power ≠ s.lc.power →
      i = .ctlPowerdown ∨ i = .ctlIdleChange ∨ i = .ctlPowerup ∨ i = .ctlTransitionDone ∨ i = .ctlHardreset) ∧
    (t.lc.codec ≠ s.lc.codec → i = .ctlCodec ∨ i = .ctlHardreset) ∧
    (t.lc.pendRate ≠ s.lc.pendRate → (∃ r, i = .ctlRate r) ∨ i = .ctlHardreset) ∧
    (t.lc.errCause ≠ s.lc.errCause → i = .ctlTransitionDone ∨ i = .ctlHardreset)

/-- The controller moves only along the edges of the transition table. Derived from R295, R314, R315. -/
def Obligations.TransitionTable : Prop :=
  ∀ s t, coreEdge s = .next t →
    (s.inp.mac.resetN = false → t.ctl.state = .reset) ∧
    (s.inp.mac.resetN = true →
      t.ctl.state = s.ctl.state ∨ (s.ctl.state, t.ctl.state) ∈ controllerEdges) ∧
    (∀ c, selectCtl s = .ctlFatal c → c ∈ possibleCauses s.ctl.state) ∧
    (selectCtl s = .ctlTimeout → .commandTimeout ∈ possibleCauses s.ctl.state)

/-- A fatal condition is answered at once by TRANSITION, then RESET with the cause recorded. Derived from
R297, R308, R315, R370, R373. Rests on log entry 13, the model's choice: the wires as a field. -/
def Obligations.FatalIsTakenFirst : Prop :=
  (∀ s t, s.inp.mac.resetN = true → coreEdge s = .next t → s.ctl.state ≠ .transition → s.fatal ≠ .none →
    t.ctl.state = .transition ∧ t.ctl.cause = s.fatal ∧ t.ctl.causeIsRate = false ∧
    t.lc = { s.lc with codec := t.lc.codec } ∧ t.cdc = s.cdc) ∧
  (∀ s t, s.inp.mac.resetN = true → coreEdge s = .next t → s.ctl.state = .transition → s.cdc.req = false →
    s.ctl.causeIsRate = false →
    t.ctl.state = .reset ∧ t.ctl.rxCfgDone = false ∧
    t.lc = { s.lc with errCause := s.ctl.cause, power := 0, codec := t.lc.codec })

/-- The fatal signal is the first condition of the spec's order. Derived from R295, R366. -/
def Obligations.FatalOrder : Prop :=
  ∀ s : State,
    let q := s.ctl.state
    let ovf := (q = .align ∨ q = .configure ∨ q = .active) ∧ s.sync.ovfC2 = true
    let unf := (q = .align ∨ q = .configure ∨ q = .active) ∧ s.ebr.unf = true
    let loss := (q = .configure ∨ q = .active) ∧ s.cfg.alignLossLimit ≤ s.ctl.lossRun
    let err := q = .active ∧ s.cfg.decodeErrLimit ≤ s.ctl.errRun
    let time := q = .detect ∧ s.cfg.tDetect ≤ s.ctl.timer ∨ q = .align ∧ s.cfg.tAlign ≤ s.ctl.timer ∨
      q = .configure ∧ s.cfg.tConfigure ≤ s.ctl.timer
    (ovf → s.fatal = .bufferOverflow) ∧
    (¬ovf → unf → s.fatal = .bufferUnderflow) ∧
    (¬ovf → ¬unf → loss → s.fatal = .alignmentLost) ∧
    (¬ovf → ¬unf → ¬loss → err → s.fatal = .scramblerDesync) ∧
    (¬ovf → ¬unf → ¬loss → ¬err → time → s.fatal = .commandTimeout) ∧
    (¬ovf → ¬unf → ¬loss → ¬err → ¬time → s.fatal = .none) ∧
    s.fatal ≠ .codecDecodeError

/-- A wait state that is not left lets its timer rise by one, below its limit. Derived from R309, R310,
R317. Rests on log entry 11, the model's choice: counters as natural numbers. -/
def Obligations.WaitStatesAreBounded : Prop :=
  ∀ s t, s.inp.mac.resetN = true → coreEdge s = .next t → waits s.ctl.state = true →
    t.ctl.state = s.ctl.state →
    t.ctl.timer = s.ctl.timer + 1 ∧
    ∀ limit, timeLimit s.cfg s.ctl.state = some limit → s.ctl.timer < limit

/-- A rate equal to the active rate, or not supported, is no command. Derived from R292, R307, R320, R344.
Rests on log entry 13, the model's choice: the wires as a field. -/
def Obligations.RateCommandIsIdempotent : Prop :=
  ∀ s t, s.inp.mac.resetN = true → coreEdge s = .next t →
    (s.inp.mac.rate = s.lc.rate ∨ s.cfg.supports s.inp.mac.rate = false) → s.ctl.state ≠ .transition →
    t.lc.rate = s.lc.rate ∧ t.lc.pendRate = s.lc.pendRate ∧
    (s.fatal = .none → t.ctl.state ≠ .transition) ∧
    ((defaultOutputs t).rateReject = true ↔ s.cfg.supports s.inp.mac.rate = false)

/-- The RXCTL request is raised only on an idle channel and lowered only on an acknowledge, and the command
word changes only with it. Derived from R101, R229, R230, R236. Rests on log entries 13 and 22, the model's
choice: the wires as a field, and the test of cdc.ack_c2 beside the guards of R300 and R306 where the
request falls. -/
def Obligations.RequestDiscipline : Prop :=
  ∀ s t, s.inp.mac.resetN = true → coreEdge s = .next t →
    (s.cdc.req = false → t.cdc.req = true →
      s.sync.ackC2 = false ∧ (t.cdc.cmd = resetCommand s.want ∨ t.cdc.cmd = flushCommand s.want)) ∧
    (s.cdc.req = true → t.cdc.req = false → s.sync.ackC2 = true) ∧
    (t.cdc.cmd ≠ s.cdc.cmd → s.cdc.req = false ∧ t.cdc.req = true)

/-- A hard-reset step resets the core_clk domain, lets the synchronisers run, and shows reset outputs.
Derived from R31, R402, R403, R404. Rests on log entries 8, 13 and 18, the model's choice: the samples, the
wires kept as a field where R343 and R344 make them combinational, and the records a hard reset keeps. -/
def Obligations.HardResetEdge : Prop :=
  ∀ s : State, s.inp.mac.resetN = false → ∃ t, coreEdge s = .next t ∧
    t.sync = { ackC1 := s.sampleAck, ackC2 := s.sync.ackC1, wgrayC1 := s.sampleWgray,
               wgrayC2 := s.sync.wgrayC1, lockedC1 := s.sampleLocked, lockedC2 := s.sync.lockedC1,
               ovfC1 := s.sampleOvf, ovfC2 := s.sync.ovfC1, sdC1 := s.sampleSigdet,
               sdC2 := s.sync.sdC1 } ∧
    t.al = s.al ∧ t.dec = s.dec ∧ t.ebw = s.ebw ∧ t.cdcRx = s.cdcRx ∧ t.rcfgCodec = s.rcfgCodec ∧
    t.mem = s.mem ∧ t.net = s.net ∧
    (let o := defaultOutputs t
     o.ready = false ∧ o.ctlState = 0 ∧ o.curRate = s.cfg.lowestRate ∧ o.curPower = 0 ∧ o.errCause = 0 ∧
     o.phyStatus = false ∧ o.rxValid = false ∧ o.rxData = 0 ∧ o.rxStatus = 0 ∧ o.rxElecidle = true ∧
     o.txKerr = false) ∧
    (let o := serOutputs t
     o.txValid = false ∧ o.txElecidle = true ∧ o.reset = true ∧ o.rate = s.cfg.lowestRate ∧
     o.codec = s.cfg.codecOf s.cfg.lowestRate ∧ o.powerdown = 0 ∧ o.rxdetReq = false) ∧
    (t.inp.mac.resetN = false → ∀ u, coreEdge t = .next u → u = { t with sync := u.sync, cross := u.cross })

/-- The adapter operations: their whole effect. Derived from R102, R341, R343, R344, R342. Rests on log
entry 13, the model's choice: PA.TXMAP and PA.CMDMAP writing the field State.net where R343 and R344 make
them combinational. -/
def Obligations.AdapterResults : Prop :=
  ∀ s : State,
    (∀ r, exec (.paRxmap true r) s = .next { s with
      pa := { s.pa with rxValid := true, rxData := r.data, rxK := r.tag == .control } }) ∧
    (∀ r, exec (.paRxmap false r) s = .next { s with
      pa := { s.pa with rxValid := false, rxData := 0, rxK := false } }) ∧
    (∃ c, exec .paStatus s = .next { s with pa := { s.pa with rxStatus := c } } ∧
      c = rxStatusOf s.dsc.outValid s.dsc.out s.sync.ovfC2 s.ebr.unf
        (s.rxd.busy && s.inp.rxdetDone && s.inp.rxdetPresent)) ∧
    (∀ d k e, exec (.paTxmap d k e) s = .next { s with
      net := { s.net with
        txValid := decide (s.ctl.state = .active ∧ e = false)
        txRec := { data := if s.lc.codec = .c8b10b then (d.setWidth 8).setWidth 128 else d,
                   tag := if k then .control else .data, ek := .none, dl := false, ins := false } } }) ∧
    (∀ pins, exec (.paCmdmap pins) s = .next { s with
      net := { s.net with
        rate := pins.extractLsb' 4 2, powerdown := pins.extractLsb' 2 2, txElecidle := pins.getLsbD 1,
        txDetectrx := pins.getLsbD 0 } })

/-- The receive status is the first condition of the spec's order. Derived from R110, R342. -/
def Obligations.StatusPriority : Prop :=
  ∀ (v : Bool) (r : SymRec) (ovf unf det : Bool),
    let code := v = true ∧ r.tag = .error ∧ r.ek = .code
    let disp := v = true ∧ r.tag = .error ∧ r.ek = .disp
    let st := (rxStatusOf v r ovf unf det).num
    (code → st = 4) ∧
    (¬code → ovf = true → st = 5) ∧
    (¬code → ovf = false → unf = true → st = 6) ∧
    (¬code → ovf = false → unf = false → disp → st = 7) ∧
    (¬code → ovf = false → unf = false → ¬disp → v = true → r.ins = true → st = 1) ∧
    (¬code → ovf = false → unf = false → ¬disp → v = true → r.ins = false → r.dl = true → st = 2) ∧
    (¬code → ovf = false → unf = false → ¬disp → (v = true → r.ins = false ∧ r.dl = false) → det = true →
      st = 3) ∧
    (¬code → ovf = false → unf = false → ¬disp → (v = true → r.ins = false ∧ r.dl = false) → det = false →
      st = 0)

/-- No data is shown, and no symbol accepted, outside ACTIVE. Derived from R112, R316, R343, R350. Rests on
log entry 13, the model's choice: the wires as a field. -/
def Obligations.OutputsGatedByReady : Prop :=
  (∀ s : State, let o := defaultOutputs s
    (o.rxValid = true → o.ready = true ∧ o.ctlState = 4) ∧
    (o.rxValid = false → o.rxData = 0 ∧ o.rxDatak = false)) ∧
  (∀ s t, s.inp.mac.resetN = true → coreEdge s = .next t →
    (t.scr.outValid = true → s.ctl.state = .active ∧ s.inp.mac.txElecidle = false) ∧
    (dataflow s.ctl.state = false → t.scr.outValid = false ∧ t.dsc.outValid = false) ∧
    (s.ctl.state = .reset ∨ s.ctl.state = .transition → t.enc.outValid = false ∧ t.enc.rd = .minus))
end

