-- ==== Sys2Proof/Laws/Memory.lean ====
section
/-! SUPPORT. The slot array: every operation over it keeps the canonical form and the index range. -/

namespace Sys2Proof.Machine

/-- A lower bound may be lowered. -/
theorem Memory.wfFrom_weaken {lo b : Nat} (h : lo ≤ b) :
    ∀ {m : Memory}, Memory.wfFrom (some b) m = true → Memory.wfFrom (some lo) m = true
  | [], _ => rfl
  | (a, v) :: rest, hm => by
    simp only [Memory.wfFrom, Bool.and_eq_true, decide_eq_true_eq] at hm ⊢
    exact ⟨⟨by omega, hm.1.2⟩, hm.2⟩

/-- What the canonical form says of a nonempty array. -/
theorem Memory.wfFrom_cons {lo : Option Nat} {a : Nat} {v : Slot} {rest : Memory} :
    Memory.wfFrom lo ((a, v) :: rest) = true ↔
      (∀ b, lo = some b → b < a) ∧ v ≠ .blank ∧ Memory.wfFrom (some a) rest = true := by
  cases lo <;> simp [Memory.wfFrom, and_assoc]

/-- A write above the bound keeps the form above the bound. -/
theorem Memory.write_wfFrom (i : Nat) (w : Slot) :
    ∀ (m : Memory) (lo : Option Nat), (∀ b, lo = some b → b < i) → Memory.wfFrom lo m = true →
      Memory.wfFrom lo (m.write i w) = true
  | [], lo, hlo, _ => by
    by_cases hw : w = Slot.blank
    · simp [Memory.write, hw, Memory.wfFrom]
    · simp only [Memory.write, hw, if_false]
      exact wfFrom_cons.2 ⟨hlo, hw, rfl⟩
  | (a, v) :: rest, lo, hlo, hm => by
    obtain ⟨h1, h2, h3⟩ := wfFrom_cons.1 hm
    have tail : ∀ b, lo = some b → Memory.wfFrom (some b) rest = true :=
      fun b hb => wfFrom_weaken (Nat.le_of_lt (h1 b hb)) h3
    unfold Memory.write
    by_cases hia : i < a
    · by_cases hw : w = Slot.blank
      · simpa [hia, hw] using hm
      · simp only [hia, hw, if_true, if_false]
        exact wfFrom_cons.2 ⟨hlo, hw, wfFrom_cons.2 ⟨by simpa using hia, h2, h3⟩⟩
    · by_cases he : i = a
      · subst he
        by_cases hw : w = Slot.blank
        · simp only [hw, if_true, Nat.lt_irrefl, if_false]
          cases lo with
          | none =>
            cases rest with
            | nil => rfl
            | cons e r => exact wfFrom_cons.2 ⟨by simp, (wfFrom_cons.1 h3).2⟩
          | some b => exact tail b rfl
        · simp only [hw, if_true, Nat.lt_irrefl, if_false]
          exact wfFrom_cons.2 ⟨h1, hw, h3⟩
      · simp only [hia, he, if_false]
        exact wfFrom_cons.2 ⟨h1, h2, write_wfFrom i w rest (some a) (by simp; omega) h3⟩

/-- A write keeps the canonical form. -/
theorem Memory.write_wf {m : Memory} (i : Nat) (w : Slot) (h : m.wf = true) : (m.write i w).wf = true :=
  Memory.write_wfFrom i w m none (by simp) h

/-- What a write lists is what it wrote, or was listed before. -/
theorem Memory.mem_write {i : Nat} {w : Slot} {e : Nat × Slot} :
    ∀ {m : Memory}, e ∈ m.write i w → e = (i, w) ∨ e ∈ m
  | [], h => by
    by_cases hw : w = Slot.blank <;> simp_all [Memory.write]
  | (a, v) :: rest, h => by
    unfold Memory.write at h
    by_cases hia : i < a
    · by_cases hw : w = Slot.blank
      · simp only [hia, hw, if_true] at h; exact .inr h
      · simp only [hia, hw, if_true, if_false, List.mem_cons] at h
        simpa using h
    · by_cases he : i = a
      · by_cases hw : w = Slot.blank
        · simp only [hw, he, if_true, Nat.lt_irrefl, if_false] at h; exact .inr (.tail _ h)
        · simp only [hw, he, if_true, Nat.lt_irrefl, if_false, List.mem_cons] at h
          rcases h with h | h
          · exact .inl (by rw [h, he])
          · exact .inr (.tail _ h)
      · simp only [hia, he, if_false, List.mem_cons] at h
        rcases h with h | h
        · exact .inr (by simp [h])
        · rcases mem_write h with h | h
          · exact .inl h
          · exact .inr (.tail _ h)

/-- A slot is read either as blank or as it is listed. -/
theorem Memory.read_cases (m : Memory) (i : Nat) : m.read i = .blank ∨ (i, m.read i) ∈ m := by
  induction m with
  | nil => exact .inl rfl
  | cons e rest ih =>
    obtain ⟨a, v⟩ := e
    by_cases h : a = i
    · exact .inr (by simp [Memory.read, h])
    · simp only [Memory.read, h, if_false]
      exact ih.imp id (fun h => .tail _ h)

/-- The slot array at power-up is canonical. -/
theorem resetWith_mem_wf (c : Params) : (State.resetWith c).mem.wf = true := rfl

/-- A slot write that answers wrote inside the array, and only the array changed. -/
theorem writeSlot_next {s t : State} {i : Nat} {v : Slot} (h : s.writeSlot i v = .next t) :
    i < s.cfg.bufferDepth ∧ t = s.setMem (s.mem.write i v) := by
  unfold State.writeSlot at h
  split at h
  · cases h; exact ⟨‹_›, rfl⟩
  · cases h

/-- A slot write inside the array answers. -/
theorem writeSlot_lt {s : State} {i : Nat} {v : Slot} (h : i < s.cfg.bufferDepth) :
    s.writeSlot i v = .next (s.setMem (s.mem.write i v)) := by simp [State.writeSlot, h]

end Sys2Proof.Machine
end

