-- ==== Sys2Proof/Laws/State.lean ====
section
/-! SUPPORT. What every named update of State reads back, one lemma for each field of each update. -/

namespace Sys2Proof.Machine

@[simp] theorem setCdcRx_cfg (s : State) (v : CdcRx) : (s.setCdcRx v).cfg = s.cfg := rfl
@[simp] theorem setCdcRx_cdcRx (s : State) (v : CdcRx) : (s.setCdcRx v).cdcRx = v := rfl
@[simp] theorem setCdcRx_rcfgCodec (s : State) (v : CdcRx) : (s.setCdcRx v).rcfgCodec = s.rcfgCodec := rfl
@[simp] theorem setCdcRx_al (s : State) (v : CdcRx) : (s.setCdcRx v).al = s.al := rfl
@[simp] theorem setCdcRx_dec (s : State) (v : CdcRx) : (s.setCdcRx v).dec = s.dec := rfl
@[simp] theorem setCdcRx_ebw (s : State) (v : CdcRx) : (s.setCdcRx v).ebw = s.ebw := rfl
@[simp] theorem setCdcRx_mem (s : State) (v : CdcRx) : (s.setCdcRx v).mem = s.mem := rfl
@[simp] theorem setCdcRx_sync (s : State) (v : CdcRx) : (s.setCdcRx v).sync = s.sync := rfl
@[simp] theorem setCdcRx_ctl (s : State) (v : CdcRx) : (s.setCdcRx v).ctl = s.ctl := rfl
@[simp] theorem setCdcRx_lc (s : State) (v : CdcRx) : (s.setCdcRx v).lc = s.lc := rfl
@[simp] theorem setCdcRx_cdc (s : State) (v : CdcRx) : (s.setCdcRx v).cdc = s.cdc := rfl
@[simp] theorem setCdcRx_idl (s : State) (v : CdcRx) : (s.setCdcRx v).idl = s.idl := rfl
@[simp] theorem setCdcRx_ebr (s : State) (v : CdcRx) : (s.setCdcRx v).ebr = s.ebr := rfl
@[simp] theorem setCdcRx_scr (s : State) (v : CdcRx) : (s.setCdcRx v).scr = s.scr := rfl
@[simp] theorem setCdcRx_dsc (s : State) (v : CdcRx) : (s.setCdcRx v).dsc = s.dsc := rfl
@[simp] theorem setCdcRx_enc (s : State) (v : CdcRx) : (s.setCdcRx v).enc = s.enc := rfl
@[simp] theorem setCdcRx_pa (s : State) (v : CdcRx) : (s.setCdcRx v).pa = s.pa := rfl
@[simp] theorem setCdcRx_rxd (s : State) (v : CdcRx) : (s.setCdcRx v).rxd = s.rxd := rfl
@[simp] theorem setCdcRx_net (s : State) (v : CdcRx) : (s.setCdcRx v).net = s.net := rfl
@[simp] theorem setCdcRx_inp (s : State) (v : CdcRx) : (s.setCdcRx v).inp = s.inp := rfl
@[simp] theorem setCdcRx_cross (s : State) (v : CdcRx) : (s.setCdcRx v).cross = s.cross := rfl
@[simp] theorem setCdcRx_stim (s : State) (v : CdcRx) : (s.setCdcRx v).stim = s.stim := rfl
@[simp] theorem setCdcRx_tick (s : State) (v : CdcRx) : (s.setCdcRx v).tick = s.tick := rfl
@[simp] theorem setRcfgCodec_cfg (s : State) (v : Codec) : (s.setRcfgCodec v).cfg = s.cfg := rfl
@[simp] theorem setRcfgCodec_cdcRx (s : State) (v : Codec) : (s.setRcfgCodec v).cdcRx = s.cdcRx := rfl
@[simp] theorem setRcfgCodec_rcfgCodec (s : State) (v : Codec) : (s.setRcfgCodec v).rcfgCodec = v := rfl
@[simp] theorem setRcfgCodec_al (s : State) (v : Codec) : (s.setRcfgCodec v).al = s.al := rfl
@[simp] theorem setRcfgCodec_dec (s : State) (v : Codec) : (s.setRcfgCodec v).dec = s.dec := rfl
@[simp] theorem setRcfgCodec_ebw (s : State) (v : Codec) : (s.setRcfgCodec v).ebw = s.ebw := rfl
@[simp] theorem setRcfgCodec_mem (s : State) (v : Codec) : (s.setRcfgCodec v).mem = s.mem := rfl
@[simp] theorem setRcfgCodec_sync (s : State) (v : Codec) : (s.setRcfgCodec v).sync = s.sync := rfl
@[simp] theorem setRcfgCodec_ctl (s : State) (v : Codec) : (s.setRcfgCodec v).ctl = s.ctl := rfl
@[simp] theorem setRcfgCodec_lc (s : State) (v : Codec) : (s.setRcfgCodec v).lc = s.lc := rfl
@[simp] theorem setRcfgCodec_cdc (s : State) (v : Codec) : (s.setRcfgCodec v).cdc = s.cdc := rfl
@[simp] theorem setRcfgCodec_idl (s : State) (v : Codec) : (s.setRcfgCodec v).idl = s.idl := rfl
@[simp] theorem setRcfgCodec_ebr (s : State) (v : Codec) : (s.setRcfgCodec v).ebr = s.ebr := rfl
@[simp] theorem setRcfgCodec_scr (s : State) (v : Codec) : (s.setRcfgCodec v).scr = s.scr := rfl
@[simp] theorem setRcfgCodec_dsc (s : State) (v : Codec) : (s.setRcfgCodec v).dsc = s.dsc := rfl
@[simp] theorem setRcfgCodec_enc (s : State) (v : Codec) : (s.setRcfgCodec v).enc = s.enc := rfl
@[simp] theorem setRcfgCodec_pa (s : State) (v : Codec) : (s.setRcfgCodec v).pa = s.pa := rfl
@[simp] theorem setRcfgCodec_rxd (s : State) (v : Codec) : (s.setRcfgCodec v).rxd = s.rxd := rfl
@[simp] theorem setRcfgCodec_net (s : State) (v : Codec) : (s.setRcfgCodec v).net = s.net := rfl
@[simp] theorem setRcfgCodec_inp (s : State) (v : Codec) : (s.setRcfgCodec v).inp = s.inp := rfl
@[simp] theorem setRcfgCodec_cross (s : State) (v : Codec) : (s.setRcfgCodec v).cross = s.cross := rfl
@[simp] theorem setRcfgCodec_stim (s : State) (v : Codec) : (s.setRcfgCodec v).stim = s.stim := rfl
@[simp] theorem setRcfgCodec_tick (s : State) (v : Codec) : (s.setRcfgCodec v).tick = s.tick := rfl
@[simp] theorem setAl_cfg (s : State) (v : Aligner) : (s.setAl v).cfg = s.cfg := rfl
@[simp] theorem setAl_cdcRx (s : State) (v : Aligner) : (s.setAl v).cdcRx = s.cdcRx := rfl
@[simp] theorem setAl_rcfgCodec (s : State) (v : Aligner) : (s.setAl v).rcfgCodec = s.rcfgCodec := rfl
@[simp] theorem setAl_al (s : State) (v : Aligner) : (s.setAl v).al = v := rfl
@[simp] theorem setAl_dec (s : State) (v : Aligner) : (s.setAl v).dec = s.dec := rfl
@[simp] theorem setAl_ebw (s : State) (v : Aligner) : (s.setAl v).ebw = s.ebw := rfl
@[simp] theorem setAl_mem (s : State) (v : Aligner) : (s.setAl v).mem = s.mem := rfl
@[simp] theorem setAl_sync (s : State) (v : Aligner) : (s.setAl v).sync = s.sync := rfl
@[simp] theorem setAl_ctl (s : State) (v : Aligner) : (s.setAl v).ctl = s.ctl := rfl
@[simp] theorem setAl_lc (s : State) (v : Aligner) : (s.setAl v).lc = s.lc := rfl
@[simp] theorem setAl_cdc (s : State) (v : Aligner) : (s.setAl v).cdc = s.cdc := rfl
@[simp] theorem setAl_idl (s : State) (v : Aligner) : (s.setAl v).idl = s.idl := rfl
@[simp] theorem setAl_ebr (s : State) (v : Aligner) : (s.setAl v).ebr = s.ebr := rfl
@[simp] theorem setAl_scr (s : State) (v : Aligner) : (s.setAl v).scr = s.scr := rfl
@[simp] theorem setAl_dsc (s : State) (v : Aligner) : (s.setAl v).dsc = s.dsc := rfl
@[simp] theorem setAl_enc (s : State) (v : Aligner) : (s.setAl v).enc = s.enc := rfl
@[simp] theorem setAl_pa (s : State) (v : Aligner) : (s.setAl v).pa = s.pa := rfl
@[simp] theorem setAl_rxd (s : State) (v : Aligner) : (s.setAl v).rxd = s.rxd := rfl
@[simp] theorem setAl_net (s : State) (v : Aligner) : (s.setAl v).net = s.net := rfl
@[simp] theorem setAl_inp (s : State) (v : Aligner) : (s.setAl v).inp = s.inp := rfl
@[simp] theorem setAl_cross (s : State) (v : Aligner) : (s.setAl v).cross = s.cross := rfl
@[simp] theorem setAl_stim (s : State) (v : Aligner) : (s.setAl v).stim = s.stim := rfl
@[simp] theorem setAl_tick (s : State) (v : Aligner) : (s.setAl v).tick = s.tick := rfl
@[simp] theorem setDec_cfg (s : State) (v : Decoder) : (s.setDec v).cfg = s.cfg := rfl
@[simp] theorem setDec_cdcRx (s : State) (v : Decoder) : (s.setDec v).cdcRx = s.cdcRx := rfl
@[simp] theorem setDec_rcfgCodec (s : State) (v : Decoder) : (s.setDec v).rcfgCodec = s.rcfgCodec := rfl
@[simp] theorem setDec_al (s : State) (v : Decoder) : (s.setDec v).al = s.al := rfl
@[simp] theorem setDec_dec (s : State) (v : Decoder) : (s.setDec v).dec = v := rfl
@[simp] theorem setDec_ebw (s : State) (v : Decoder) : (s.setDec v).ebw = s.ebw := rfl
@[simp] theorem setDec_mem (s : State) (v : Decoder) : (s.setDec v).mem = s.mem := rfl
@[simp] theorem setDec_sync (s : State) (v : Decoder) : (s.setDec v).sync = s.sync := rfl
@[simp] theorem setDec_ctl (s : State) (v : Decoder) : (s.setDec v).ctl = s.ctl := rfl
@[simp] theorem setDec_lc (s : State) (v : Decoder) : (s.setDec v).lc = s.lc := rfl
@[simp] theorem setDec_cdc (s : State) (v : Decoder) : (s.setDec v).cdc = s.cdc := rfl
@[simp] theorem setDec_idl (s : State) (v : Decoder) : (s.setDec v).idl = s.idl := rfl
@[simp] theorem setDec_ebr (s : State) (v : Decoder) : (s.setDec v).ebr = s.ebr := rfl
@[simp] theorem setDec_scr (s : State) (v : Decoder) : (s.setDec v).scr = s.scr := rfl
@[simp] theorem setDec_dsc (s : State) (v : Decoder) : (s.setDec v).dsc = s.dsc := rfl
@[simp] theorem setDec_enc (s : State) (v : Decoder) : (s.setDec v).enc = s.enc := rfl
@[simp] theorem setDec_pa (s : State) (v : Decoder) : (s.setDec v).pa = s.pa := rfl
@[simp] theorem setDec_rxd (s : State) (v : Decoder) : (s.setDec v).rxd = s.rxd := rfl
@[simp] theorem setDec_net (s : State) (v : Decoder) : (s.setDec v).net = s.net := rfl
@[simp] theorem setDec_inp (s : State) (v : Decoder) : (s.setDec v).inp = s.inp := rfl
@[simp] theorem setDec_cross (s : State) (v : Decoder) : (s.setDec v).cross = s.cross := rfl
@[simp] theorem setDec_stim (s : State) (v : Decoder) : (s.setDec v).stim = s.stim := rfl
@[simp] theorem setDec_tick (s : State) (v : Decoder) : (s.setDec v).tick = s.tick := rfl
@[simp] theorem setEbw_cfg (s : State) (v : WriteSide) : (s.setEbw v).cfg = s.cfg := rfl
@[simp] theorem setEbw_cdcRx (s : State) (v : WriteSide) : (s.setEbw v).cdcRx = s.cdcRx := rfl
@[simp] theorem setEbw_rcfgCodec (s : State) (v : WriteSide) : (s.setEbw v).rcfgCodec = s.rcfgCodec := rfl
@[simp] theorem setEbw_al (s : State) (v : WriteSide) : (s.setEbw v).al = s.al := rfl
@[simp] theorem setEbw_dec (s : State) (v : WriteSide) : (s.setEbw v).dec = s.dec := rfl
@[simp] theorem setEbw_ebw (s : State) (v : WriteSide) : (s.setEbw v).ebw = v := rfl
@[simp] theorem setEbw_mem (s : State) (v : WriteSide) : (s.setEbw v).mem = s.mem := rfl
@[simp] theorem setEbw_sync (s : State) (v : WriteSide) : (s.setEbw v).sync = s.sync := rfl
@[simp] theorem setEbw_ctl (s : State) (v : WriteSide) : (s.setEbw v).ctl = s.ctl := rfl
@[simp] theorem setEbw_lc (s : State) (v : WriteSide) : (s.setEbw v).lc = s.lc := rfl
@[simp] theorem setEbw_cdc (s : State) (v : WriteSide) : (s.setEbw v).cdc = s.cdc := rfl
@[simp] theorem setEbw_idl (s : State) (v : WriteSide) : (s.setEbw v).idl = s.idl := rfl
@[simp] theorem setEbw_ebr (s : State) (v : WriteSide) : (s.setEbw v).ebr = s.ebr := rfl
@[simp] theorem setEbw_scr (s : State) (v : WriteSide) : (s.setEbw v).scr = s.scr := rfl
@[simp] theorem setEbw_dsc (s : State) (v : WriteSide) : (s.setEbw v).dsc = s.dsc := rfl
@[simp] theorem setEbw_enc (s : State) (v : WriteSide) : (s.setEbw v).enc = s.enc := rfl
@[simp] theorem setEbw_pa (s : State) (v : WriteSide) : (s.setEbw v).pa = s.pa := rfl
@[simp] theorem setEbw_rxd (s : State) (v : WriteSide) : (s.setEbw v).rxd = s.rxd := rfl
@[simp] theorem setEbw_net (s : State) (v : WriteSide) : (s.setEbw v).net = s.net := rfl
@[simp] theorem setEbw_inp (s : State) (v : WriteSide) : (s.setEbw v).inp = s.inp := rfl
@[simp] theorem setEbw_cross (s : State) (v : WriteSide) : (s.setEbw v).cross = s.cross := rfl
@[simp] theorem setEbw_stim (s : State) (v : WriteSide) : (s.setEbw v).stim = s.stim := rfl
@[simp] theorem setEbw_tick (s : State) (v : WriteSide) : (s.setEbw v).tick = s.tick := rfl
@[simp] theorem setMem_cfg (s : State) (v : Memory) : (s.setMem v).cfg = s.cfg := rfl
@[simp] theorem setMem_cdcRx (s : State) (v : Memory) : (s.setMem v).cdcRx = s.cdcRx := rfl
@[simp] theorem setMem_rcfgCodec (s : State) (v : Memory) : (s.setMem v).rcfgCodec = s.rcfgCodec := rfl
@[simp] theorem setMem_al (s : State) (v : Memory) : (s.setMem v).al = s.al := rfl
@[simp] theorem setMem_dec (s : State) (v : Memory) : (s.setMem v).dec = s.dec := rfl
@[simp] theorem setMem_ebw (s : State) (v : Memory) : (s.setMem v).ebw = s.ebw := rfl
@[simp] theorem setMem_mem (s : State) (v : Memory) : (s.setMem v).mem = v := rfl
@[simp] theorem setMem_sync (s : State) (v : Memory) : (s.setMem v).sync = s.sync := rfl
@[simp] theorem setMem_ctl (s : State) (v : Memory) : (s.setMem v).ctl = s.ctl := rfl
@[simp] theorem setMem_lc (s : State) (v : Memory) : (s.setMem v).lc = s.lc := rfl
@[simp] theorem setMem_cdc (s : State) (v : Memory) : (s.setMem v).cdc = s.cdc := rfl
@[simp] theorem setMem_idl (s : State) (v : Memory) : (s.setMem v).idl = s.idl := rfl
@[simp] theorem setMem_ebr (s : State) (v : Memory) : (s.setMem v).ebr = s.ebr := rfl
@[simp] theorem setMem_scr (s : State) (v : Memory) : (s.setMem v).scr = s.scr := rfl
@[simp] theorem setMem_dsc (s : State) (v : Memory) : (s.setMem v).dsc = s.dsc := rfl
@[simp] theorem setMem_enc (s : State) (v : Memory) : (s.setMem v).enc = s.enc := rfl
@[simp] theorem setMem_pa (s : State) (v : Memory) : (s.setMem v).pa = s.pa := rfl
@[simp] theorem setMem_rxd (s : State) (v : Memory) : (s.setMem v).rxd = s.rxd := rfl
@[simp] theorem setMem_net (s : State) (v : Memory) : (s.setMem v).net = s.net := rfl
@[simp] theorem setMem_inp (s : State) (v : Memory) : (s.setMem v).inp = s.inp := rfl
@[simp] theorem setMem_cross (s : State) (v : Memory) : (s.setMem v).cross = s.cross := rfl
@[simp] theorem setMem_stim (s : State) (v : Memory) : (s.setMem v).stim = s.stim := rfl
@[simp] theorem setMem_tick (s : State) (v : Memory) : (s.setMem v).tick = s.tick := rfl
@[simp] theorem setSync_cfg (s : State) (v : Sync) : (s.setSync v).cfg = s.cfg := rfl
@[simp] theorem setSync_cdcRx (s : State) (v : Sync) : (s.setSync v).cdcRx = s.cdcRx := rfl
@[simp] theorem setSync_rcfgCodec (s : State) (v : Sync) : (s.setSync v).rcfgCodec = s.rcfgCodec := rfl
@[simp] theorem setSync_al (s : State) (v : Sync) : (s.setSync v).al = s.al := rfl
@[simp] theorem setSync_dec (s : State) (v : Sync) : (s.setSync v).dec = s.dec := rfl
@[simp] theorem setSync_ebw (s : State) (v : Sync) : (s.setSync v).ebw = s.ebw := rfl
@[simp] theorem setSync_mem (s : State) (v : Sync) : (s.setSync v).mem = s.mem := rfl
@[simp] theorem setSync_sync (s : State) (v : Sync) : (s.setSync v).sync = v := rfl
@[simp] theorem setSync_ctl (s : State) (v : Sync) : (s.setSync v).ctl = s.ctl := rfl
@[simp] theorem setSync_lc (s : State) (v : Sync) : (s.setSync v).lc = s.lc := rfl
@[simp] theorem setSync_cdc (s : State) (v : Sync) : (s.setSync v).cdc = s.cdc := rfl
@[simp] theorem setSync_idl (s : State) (v : Sync) : (s.setSync v).idl = s.idl := rfl
@[simp] theorem setSync_ebr (s : State) (v : Sync) : (s.setSync v).ebr = s.ebr := rfl
@[simp] theorem setSync_scr (s : State) (v : Sync) : (s.setSync v).scr = s.scr := rfl
@[simp] theorem setSync_dsc (s : State) (v : Sync) : (s.setSync v).dsc = s.dsc := rfl
@[simp] theorem setSync_enc (s : State) (v : Sync) : (s.setSync v).enc = s.enc := rfl
@[simp] theorem setSync_pa (s : State) (v : Sync) : (s.setSync v).pa = s.pa := rfl
@[simp] theorem setSync_rxd (s : State) (v : Sync) : (s.setSync v).rxd = s.rxd := rfl
@[simp] theorem setSync_net (s : State) (v : Sync) : (s.setSync v).net = s.net := rfl
@[simp] theorem setSync_inp (s : State) (v : Sync) : (s.setSync v).inp = s.inp := rfl
@[simp] theorem setSync_cross (s : State) (v : Sync) : (s.setSync v).cross = s.cross := rfl
@[simp] theorem setSync_stim (s : State) (v : Sync) : (s.setSync v).stim = s.stim := rfl
@[simp] theorem setSync_tick (s : State) (v : Sync) : (s.setSync v).tick = s.tick := rfl
@[simp] theorem setCtl_cfg (s : State) (v : Ctl) : (s.setCtl v).cfg = s.cfg := rfl
@[simp] theorem setCtl_cdcRx (s : State) (v : Ctl) : (s.setCtl v).cdcRx = s.cdcRx := rfl
@[simp] theorem setCtl_rcfgCodec (s : State) (v : Ctl) : (s.setCtl v).rcfgCodec = s.rcfgCodec := rfl
@[simp] theorem setCtl_al (s : State) (v : Ctl) : (s.setCtl v).al = s.al := rfl
@[simp] theorem setCtl_dec (s : State) (v : Ctl) : (s.setCtl v).dec = s.dec := rfl
@[simp] theorem setCtl_ebw (s : State) (v : Ctl) : (s.setCtl v).ebw = s.ebw := rfl
@[simp] theorem setCtl_mem (s : State) (v : Ctl) : (s.setCtl v).mem = s.mem := rfl
@[simp] theorem setCtl_sync (s : State) (v : Ctl) : (s.setCtl v).sync = s.sync := rfl
@[simp] theorem setCtl_ctl (s : State) (v : Ctl) : (s.setCtl v).ctl = v := rfl
@[simp] theorem setCtl_lc (s : State) (v : Ctl) : (s.setCtl v).lc = s.lc := rfl
@[simp] theorem setCtl_cdc (s : State) (v : Ctl) : (s.setCtl v).cdc = s.cdc := rfl
@[simp] theorem setCtl_idl (s : State) (v : Ctl) : (s.setCtl v).idl = s.idl := rfl
@[simp] theorem setCtl_ebr (s : State) (v : Ctl) : (s.setCtl v).ebr = s.ebr := rfl
@[simp] theorem setCtl_scr (s : State) (v : Ctl) : (s.setCtl v).scr = s.scr := rfl
@[simp] theorem setCtl_dsc (s : State) (v : Ctl) : (s.setCtl v).dsc = s.dsc := rfl
@[simp] theorem setCtl_enc (s : State) (v : Ctl) : (s.setCtl v).enc = s.enc := rfl
@[simp] theorem setCtl_pa (s : State) (v : Ctl) : (s.setCtl v).pa = s.pa := rfl
@[simp] theorem setCtl_rxd (s : State) (v : Ctl) : (s.setCtl v).rxd = s.rxd := rfl
@[simp] theorem setCtl_net (s : State) (v : Ctl) : (s.setCtl v).net = s.net := rfl
@[simp] theorem setCtl_inp (s : State) (v : Ctl) : (s.setCtl v).inp = s.inp := rfl
@[simp] theorem setCtl_cross (s : State) (v : Ctl) : (s.setCtl v).cross = s.cross := rfl
@[simp] theorem setCtl_stim (s : State) (v : Ctl) : (s.setCtl v).stim = s.stim := rfl
@[simp] theorem setCtl_tick (s : State) (v : Ctl) : (s.setCtl v).tick = s.tick := rfl
@[simp] theorem setLc_cfg (s : State) (v : LinkConfig) : (s.setLc v).cfg = s.cfg := rfl
@[simp] theorem setLc_cdcRx (s : State) (v : LinkConfig) : (s.setLc v).cdcRx = s.cdcRx := rfl
@[simp] theorem setLc_rcfgCodec (s : State) (v : LinkConfig) : (s.setLc v).rcfgCodec = s.rcfgCodec := rfl
@[simp] theorem setLc_al (s : State) (v : LinkConfig) : (s.setLc v).al = s.al := rfl
@[simp] theorem setLc_dec (s : State) (v : LinkConfig) : (s.setLc v).dec = s.dec := rfl
@[simp] theorem setLc_ebw (s : State) (v : LinkConfig) : (s.setLc v).ebw = s.ebw := rfl
@[simp] theorem setLc_mem (s : State) (v : LinkConfig) : (s.setLc v).mem = s.mem := rfl
@[simp] theorem setLc_sync (s : State) (v : LinkConfig) : (s.setLc v).sync = s.sync := rfl
@[simp] theorem setLc_ctl (s : State) (v : LinkConfig) : (s.setLc v).ctl = s.ctl := rfl
@[simp] theorem setLc_lc (s : State) (v : LinkConfig) : (s.setLc v).lc = v := rfl
@[simp] theorem setLc_cdc (s : State) (v : LinkConfig) : (s.setLc v).cdc = s.cdc := rfl
@[simp] theorem setLc_idl (s : State) (v : LinkConfig) : (s.setLc v).idl = s.idl := rfl
@[simp] theorem setLc_ebr (s : State) (v : LinkConfig) : (s.setLc v).ebr = s.ebr := rfl
@[simp] theorem setLc_scr (s : State) (v : LinkConfig) : (s.setLc v).scr = s.scr := rfl
@[simp] theorem setLc_dsc (s : State) (v : LinkConfig) : (s.setLc v).dsc = s.dsc := rfl
@[simp] theorem setLc_enc (s : State) (v : LinkConfig) : (s.setLc v).enc = s.enc := rfl
@[simp] theorem setLc_pa (s : State) (v : LinkConfig) : (s.setLc v).pa = s.pa := rfl
@[simp] theorem setLc_rxd (s : State) (v : LinkConfig) : (s.setLc v).rxd = s.rxd := rfl
@[simp] theorem setLc_net (s : State) (v : LinkConfig) : (s.setLc v).net = s.net := rfl
@[simp] theorem setLc_inp (s : State) (v : LinkConfig) : (s.setLc v).inp = s.inp := rfl
@[simp] theorem setLc_cross (s : State) (v : LinkConfig) : (s.setLc v).cross = s.cross := rfl
@[simp] theorem setLc_stim (s : State) (v : LinkConfig) : (s.setLc v).stim = s.stim := rfl
@[simp] theorem setLc_tick (s : State) (v : LinkConfig) : (s.setLc v).tick = s.tick := rfl
@[simp] theorem setCdc_cfg (s : State) (v : CdcCore) : (s.setCdc v).cfg = s.cfg := rfl
@[simp] theorem setCdc_cdcRx (s : State) (v : CdcCore) : (s.setCdc v).cdcRx = s.cdcRx := rfl
@[simp] theorem setCdc_rcfgCodec (s : State) (v : CdcCore) : (s.setCdc v).rcfgCodec = s.rcfgCodec := rfl
@[simp] theorem setCdc_al (s : State) (v : CdcCore) : (s.setCdc v).al = s.al := rfl
@[simp] theorem setCdc_dec (s : State) (v : CdcCore) : (s.setCdc v).dec = s.dec := rfl
@[simp] theorem setCdc_ebw (s : State) (v : CdcCore) : (s.setCdc v).ebw = s.ebw := rfl
@[simp] theorem setCdc_mem (s : State) (v : CdcCore) : (s.setCdc v).mem = s.mem := rfl
@[simp] theorem setCdc_sync (s : State) (v : CdcCore) : (s.setCdc v).sync = s.sync := rfl
@[simp] theorem setCdc_ctl (s : State) (v : CdcCore) : (s.setCdc v).ctl = s.ctl := rfl
@[simp] theorem setCdc_lc (s : State) (v : CdcCore) : (s.setCdc v).lc = s.lc := rfl
@[simp] theorem setCdc_cdc (s : State) (v : CdcCore) : (s.setCdc v).cdc = v := rfl
@[simp] theorem setCdc_idl (s : State) (v : CdcCore) : (s.setCdc v).idl = s.idl := rfl
@[simp] theorem setCdc_ebr (s : State) (v : CdcCore) : (s.setCdc v).ebr = s.ebr := rfl
@[simp] theorem setCdc_scr (s : State) (v : CdcCore) : (s.setCdc v).scr = s.scr := rfl
@[simp] theorem setCdc_dsc (s : State) (v : CdcCore) : (s.setCdc v).dsc = s.dsc := rfl
@[simp] theorem setCdc_enc (s : State) (v : CdcCore) : (s.setCdc v).enc = s.enc := rfl
@[simp] theorem setCdc_pa (s : State) (v : CdcCore) : (s.setCdc v).pa = s.pa := rfl
@[simp] theorem setCdc_rxd (s : State) (v : CdcCore) : (s.setCdc v).rxd = s.rxd := rfl
@[simp] theorem setCdc_net (s : State) (v : CdcCore) : (s.setCdc v).net = s.net := rfl
@[simp] theorem setCdc_inp (s : State) (v : CdcCore) : (s.setCdc v).inp = s.inp := rfl
@[simp] theorem setCdc_cross (s : State) (v : CdcCore) : (s.setCdc v).cross = s.cross := rfl
@[simp] theorem setCdc_stim (s : State) (v : CdcCore) : (s.setCdc v).stim = s.stim := rfl
@[simp] theorem setCdc_tick (s : State) (v : CdcCore) : (s.setCdc v).tick = s.tick := rfl
@[simp] theorem setIdl_cfg (s : State) (v : Idle) : (s.setIdl v).cfg = s.cfg := rfl
@[simp] theorem setIdl_cdcRx (s : State) (v : Idle) : (s.setIdl v).cdcRx = s.cdcRx := rfl
@[simp] theorem setIdl_rcfgCodec (s : State) (v : Idle) : (s.setIdl v).rcfgCodec = s.rcfgCodec := rfl
@[simp] theorem setIdl_al (s : State) (v : Idle) : (s.setIdl v).al = s.al := rfl
@[simp] theorem setIdl_dec (s : State) (v : Idle) : (s.setIdl v).dec = s.dec := rfl
@[simp] theorem setIdl_ebw (s : State) (v : Idle) : (s.setIdl v).ebw = s.ebw := rfl
@[simp] theorem setIdl_mem (s : State) (v : Idle) : (s.setIdl v).mem = s.mem := rfl
@[simp] theorem setIdl_sync (s : State) (v : Idle) : (s.setIdl v).sync = s.sync := rfl
@[simp] theorem setIdl_ctl (s : State) (v : Idle) : (s.setIdl v).ctl = s.ctl := rfl
@[simp] theorem setIdl_lc (s : State) (v : Idle) : (s.setIdl v).lc = s.lc := rfl
@[simp] theorem setIdl_cdc (s : State) (v : Idle) : (s.setIdl v).cdc = s.cdc := rfl
@[simp] theorem setIdl_idl (s : State) (v : Idle) : (s.setIdl v).idl = v := rfl
@[simp] theorem setIdl_ebr (s : State) (v : Idle) : (s.setIdl v).ebr = s.ebr := rfl
@[simp] theorem setIdl_scr (s : State) (v : Idle) : (s.setIdl v).scr = s.scr := rfl
@[simp] theorem setIdl_dsc (s : State) (v : Idle) : (s.setIdl v).dsc = s.dsc := rfl
@[simp] theorem setIdl_enc (s : State) (v : Idle) : (s.setIdl v).enc = s.enc := rfl
@[simp] theorem setIdl_pa (s : State) (v : Idle) : (s.setIdl v).pa = s.pa := rfl
@[simp] theorem setIdl_rxd (s : State) (v : Idle) : (s.setIdl v).rxd = s.rxd := rfl
@[simp] theorem setIdl_net (s : State) (v : Idle) : (s.setIdl v).net = s.net := rfl
@[simp] theorem setIdl_inp (s : State) (v : Idle) : (s.setIdl v).inp = s.inp := rfl
@[simp] theorem setIdl_cross (s : State) (v : Idle) : (s.setIdl v).cross = s.cross := rfl
@[simp] theorem setIdl_stim (s : State) (v : Idle) : (s.setIdl v).stim = s.stim := rfl
@[simp] theorem setIdl_tick (s : State) (v : Idle) : (s.setIdl v).tick = s.tick := rfl
@[simp] theorem setEbr_cfg (s : State) (v : ReadSide) : (s.setEbr v).cfg = s.cfg := rfl
@[simp] theorem setEbr_cdcRx (s : State) (v : ReadSide) : (s.setEbr v).cdcRx = s.cdcRx := rfl
@[simp] theorem setEbr_rcfgCodec (s : State) (v : ReadSide) : (s.setEbr v).rcfgCodec = s.rcfgCodec := rfl
@[simp] theorem setEbr_al (s : State) (v : ReadSide) : (s.setEbr v).al = s.al := rfl
@[simp] theorem setEbr_dec (s : State) (v : ReadSide) : (s.setEbr v).dec = s.dec := rfl
@[simp] theorem setEbr_ebw (s : State) (v : ReadSide) : (s.setEbr v).ebw = s.ebw := rfl
@[simp] theorem setEbr_mem (s : State) (v : ReadSide) : (s.setEbr v).mem = s.mem := rfl
@[simp] theorem setEbr_sync (s : State) (v : ReadSide) : (s.setEbr v).sync = s.sync := rfl
@[simp] theorem setEbr_ctl (s : State) (v : ReadSide) : (s.setEbr v).ctl = s.ctl := rfl
@[simp] theorem setEbr_lc (s : State) (v : ReadSide) : (s.setEbr v).lc = s.lc := rfl
@[simp] theorem setEbr_cdc (s : State) (v : ReadSide) : (s.setEbr v).cdc = s.cdc := rfl
@[simp] theorem setEbr_idl (s : State) (v : ReadSide) : (s.setEbr v).idl = s.idl := rfl
@[simp] theorem setEbr_ebr (s : State) (v : ReadSide) : (s.setEbr v).ebr = v := rfl
@[simp] theorem setEbr_scr (s : State) (v : ReadSide) : (s.setEbr v).scr = s.scr := rfl
@[simp] theorem setEbr_dsc (s : State) (v : ReadSide) : (s.setEbr v).dsc = s.dsc := rfl
@[simp] theorem setEbr_enc (s : State) (v : ReadSide) : (s.setEbr v).enc = s.enc := rfl
@[simp] theorem setEbr_pa (s : State) (v : ReadSide) : (s.setEbr v).pa = s.pa := rfl
@[simp] theorem setEbr_rxd (s : State) (v : ReadSide) : (s.setEbr v).rxd = s.rxd := rfl
@[simp] theorem setEbr_net (s : State) (v : ReadSide) : (s.setEbr v).net = s.net := rfl
@[simp] theorem setEbr_inp (s : State) (v : ReadSide) : (s.setEbr v).inp = s.inp := rfl
@[simp] theorem setEbr_cross (s : State) (v : ReadSide) : (s.setEbr v).cross = s.cross := rfl
@[simp] theorem setEbr_stim (s : State) (v : ReadSide) : (s.setEbr v).stim = s.stim := rfl
@[simp] theorem setEbr_tick (s : State) (v : ReadSide) : (s.setEbr v).tick = s.tick := rfl
@[simp] theorem setScr_cfg (s : State) (v : Scrambler) : (s.setScr v).cfg = s.cfg := rfl
@[simp] theorem setScr_cdcRx (s : State) (v : Scrambler) : (s.setScr v).cdcRx = s.cdcRx := rfl
@[simp] theorem setScr_rcfgCodec (s : State) (v : Scrambler) : (s.setScr v).rcfgCodec = s.rcfgCodec := rfl
@[simp] theorem setScr_al (s : State) (v : Scrambler) : (s.setScr v).al = s.al := rfl
@[simp] theorem setScr_dec (s : State) (v : Scrambler) : (s.setScr v).dec = s.dec := rfl
@[simp] theorem setScr_ebw (s : State) (v : Scrambler) : (s.setScr v).ebw = s.ebw := rfl
@[simp] theorem setScr_mem (s : State) (v : Scrambler) : (s.setScr v).mem = s.mem := rfl
@[simp] theorem setScr_sync (s : State) (v : Scrambler) : (s.setScr v).sync = s.sync := rfl
@[simp] theorem setScr_ctl (s : State) (v : Scrambler) : (s.setScr v).ctl = s.ctl := rfl
@[simp] theorem setScr_lc (s : State) (v : Scrambler) : (s.setScr v).lc = s.lc := rfl
@[simp] theorem setScr_cdc (s : State) (v : Scrambler) : (s.setScr v).cdc = s.cdc := rfl
@[simp] theorem setScr_idl (s : State) (v : Scrambler) : (s.setScr v).idl = s.idl := rfl
@[simp] theorem setScr_ebr (s : State) (v : Scrambler) : (s.setScr v).ebr = s.ebr := rfl
@[simp] theorem setScr_scr (s : State) (v : Scrambler) : (s.setScr v).scr = v := rfl
@[simp] theorem setScr_dsc (s : State) (v : Scrambler) : (s.setScr v).dsc = s.dsc := rfl
@[simp] theorem setScr_enc (s : State) (v : Scrambler) : (s.setScr v).enc = s.enc := rfl
@[simp] theorem setScr_pa (s : State) (v : Scrambler) : (s.setScr v).pa = s.pa := rfl
@[simp] theorem setScr_rxd (s : State) (v : Scrambler) : (s.setScr v).rxd = s.rxd := rfl
@[simp] theorem setScr_net (s : State) (v : Scrambler) : (s.setScr v).net = s.net := rfl
@[simp] theorem setScr_inp (s : State) (v : Scrambler) : (s.setScr v).inp = s.inp := rfl
@[simp] theorem setScr_cross (s : State) (v : Scrambler) : (s.setScr v).cross = s.cross := rfl
@[simp] theorem setScr_stim (s : State) (v : Scrambler) : (s.setScr v).stim = s.stim := rfl
@[simp] theorem setScr_tick (s : State) (v : Scrambler) : (s.setScr v).tick = s.tick := rfl
@[simp] theorem setDsc_cfg (s : State) (v : Scrambler) : (s.setDsc v).cfg = s.cfg := rfl
@[simp] theorem setDsc_cdcRx (s : State) (v : Scrambler) : (s.setDsc v).cdcRx = s.cdcRx := rfl
@[simp] theorem setDsc_rcfgCodec (s : State) (v : Scrambler) : (s.setDsc v).rcfgCodec = s.rcfgCodec := rfl
@[simp] theorem setDsc_al (s : State) (v : Scrambler) : (s.setDsc v).al = s.al := rfl
@[simp] theorem setDsc_dec (s : State) (v : Scrambler) : (s.setDsc v).dec = s.dec := rfl
@[simp] theorem setDsc_ebw (s : State) (v : Scrambler) : (s.setDsc v).ebw = s.ebw := rfl
@[simp] theorem setDsc_mem (s : State) (v : Scrambler) : (s.setDsc v).mem = s.mem := rfl
@[simp] theorem setDsc_sync (s : State) (v : Scrambler) : (s.setDsc v).sync = s.sync := rfl
@[simp] theorem setDsc_ctl (s : State) (v : Scrambler) : (s.setDsc v).ctl = s.ctl := rfl
@[simp] theorem setDsc_lc (s : State) (v : Scrambler) : (s.setDsc v).lc = s.lc := rfl
@[simp] theorem setDsc_cdc (s : State) (v : Scrambler) : (s.setDsc v).cdc = s.cdc := rfl
@[simp] theorem setDsc_idl (s : State) (v : Scrambler) : (s.setDsc v).idl = s.idl := rfl
@[simp] theorem setDsc_ebr (s : State) (v : Scrambler) : (s.setDsc v).ebr = s.ebr := rfl
@[simp] theorem setDsc_scr (s : State) (v : Scrambler) : (s.setDsc v).scr = s.scr := rfl
@[simp] theorem setDsc_dsc (s : State) (v : Scrambler) : (s.setDsc v).dsc = v := rfl
@[simp] theorem setDsc_enc (s : State) (v : Scrambler) : (s.setDsc v).enc = s.enc := rfl
@[simp] theorem setDsc_pa (s : State) (v : Scrambler) : (s.setDsc v).pa = s.pa := rfl
@[simp] theorem setDsc_rxd (s : State) (v : Scrambler) : (s.setDsc v).rxd = s.rxd := rfl
@[simp] theorem setDsc_net (s : State) (v : Scrambler) : (s.setDsc v).net = s.net := rfl
@[simp] theorem setDsc_inp (s : State) (v : Scrambler) : (s.setDsc v).inp = s.inp := rfl
@[simp] theorem setDsc_cross (s : State) (v : Scrambler) : (s.setDsc v).cross = s.cross := rfl
@[simp] theorem setDsc_stim (s : State) (v : Scrambler) : (s.setDsc v).stim = s.stim := rfl
@[simp] theorem setDsc_tick (s : State) (v : Scrambler) : (s.setDsc v).tick = s.tick := rfl
@[simp] theorem setEnc_cfg (s : State) (v : Encoder) : (s.setEnc v).cfg = s.cfg := rfl
@[simp] theorem setEnc_cdcRx (s : State) (v : Encoder) : (s.setEnc v).cdcRx = s.cdcRx := rfl
@[simp] theorem setEnc_rcfgCodec (s : State) (v : Encoder) : (s.setEnc v).rcfgCodec = s.rcfgCodec := rfl
@[simp] theorem setEnc_al (s : State) (v : Encoder) : (s.setEnc v).al = s.al := rfl
@[simp] theorem setEnc_dec (s : State) (v : Encoder) : (s.setEnc v).dec = s.dec := rfl
@[simp] theorem setEnc_ebw (s : State) (v : Encoder) : (s.setEnc v).ebw = s.ebw := rfl
@[simp] theorem setEnc_mem (s : State) (v : Encoder) : (s.setEnc v).mem = s.mem := rfl
@[simp] theorem setEnc_sync (s : State) (v : Encoder) : (s.setEnc v).sync = s.sync := rfl
@[simp] theorem setEnc_ctl (s : State) (v : Encoder) : (s.setEnc v).ctl = s.ctl := rfl
@[simp] theorem setEnc_lc (s : State) (v : Encoder) : (s.setEnc v).lc = s.lc := rfl
@[simp] theorem setEnc_cdc (s : State) (v : Encoder) : (s.setEnc v).cdc = s.cdc := rfl
@[simp] theorem setEnc_idl (s : State) (v : Encoder) : (s.setEnc v).idl = s.idl := rfl
@[simp] theorem setEnc_ebr (s : State) (v : Encoder) : (s.setEnc v).ebr = s.ebr := rfl
@[simp] theorem setEnc_scr (s : State) (v : Encoder) : (s.setEnc v).scr = s.scr := rfl
@[simp] theorem setEnc_dsc (s : State) (v : Encoder) : (s.setEnc v).dsc = s.dsc := rfl
@[simp] theorem setEnc_enc (s : State) (v : Encoder) : (s.setEnc v).enc = v := rfl
@[simp] theorem setEnc_pa (s : State) (v : Encoder) : (s.setEnc v).pa = s.pa := rfl
@[simp] theorem setEnc_rxd (s : State) (v : Encoder) : (s.setEnc v).rxd = s.rxd := rfl
@[simp] theorem setEnc_net (s : State) (v : Encoder) : (s.setEnc v).net = s.net := rfl
@[simp] theorem setEnc_inp (s : State) (v : Encoder) : (s.setEnc v).inp = s.inp := rfl
@[simp] theorem setEnc_cross (s : State) (v : Encoder) : (s.setEnc v).cross = s.cross := rfl
@[simp] theorem setEnc_stim (s : State) (v : Encoder) : (s.setEnc v).stim = s.stim := rfl
@[simp] theorem setEnc_tick (s : State) (v : Encoder) : (s.setEnc v).tick = s.tick := rfl
@[simp] theorem setPa_cfg (s : State) (v : Adapter) : (s.setPa v).cfg = s.cfg := rfl
@[simp] theorem setPa_cdcRx (s : State) (v : Adapter) : (s.setPa v).cdcRx = s.cdcRx := rfl
@[simp] theorem setPa_rcfgCodec (s : State) (v : Adapter) : (s.setPa v).rcfgCodec = s.rcfgCodec := rfl
@[simp] theorem setPa_al (s : State) (v : Adapter) : (s.setPa v).al = s.al := rfl
@[simp] theorem setPa_dec (s : State) (v : Adapter) : (s.setPa v).dec = s.dec := rfl
@[simp] theorem setPa_ebw (s : State) (v : Adapter) : (s.setPa v).ebw = s.ebw := rfl
@[simp] theorem setPa_mem (s : State) (v : Adapter) : (s.setPa v).mem = s.mem := rfl
@[simp] theorem setPa_sync (s : State) (v : Adapter) : (s.setPa v).sync = s.sync := rfl
@[simp] theorem setPa_ctl (s : State) (v : Adapter) : (s.setPa v).ctl = s.ctl := rfl
@[simp] theorem setPa_lc (s : State) (v : Adapter) : (s.setPa v).lc = s.lc := rfl
@[simp] theorem setPa_cdc (s : State) (v : Adapter) : (s.setPa v).cdc = s.cdc := rfl
@[simp] theorem setPa_idl (s : State) (v : Adapter) : (s.setPa v).idl = s.idl := rfl
@[simp] theorem setPa_ebr (s : State) (v : Adapter) : (s.setPa v).ebr = s.ebr := rfl
@[simp] theorem setPa_scr (s : State) (v : Adapter) : (s.setPa v).scr = s.scr := rfl
@[simp] theorem setPa_dsc (s : State) (v : Adapter) : (s.setPa v).dsc = s.dsc := rfl
@[simp] theorem setPa_enc (s : State) (v : Adapter) : (s.setPa v).enc = s.enc := rfl
@[simp] theorem setPa_pa (s : State) (v : Adapter) : (s.setPa v).pa = v := rfl
@[simp] theorem setPa_rxd (s : State) (v : Adapter) : (s.setPa v).rxd = s.rxd := rfl
@[simp] theorem setPa_net (s : State) (v : Adapter) : (s.setPa v).net = s.net := rfl
@[simp] theorem setPa_inp (s : State) (v : Adapter) : (s.setPa v).inp = s.inp := rfl
@[simp] theorem setPa_cross (s : State) (v : Adapter) : (s.setPa v).cross = s.cross := rfl
@[simp] theorem setPa_stim (s : State) (v : Adapter) : (s.setPa v).stim = s.stim := rfl
@[simp] theorem setPa_tick (s : State) (v : Adapter) : (s.setPa v).tick = s.tick := rfl
@[simp] theorem setRxd_cfg (s : State) (v : RxDetect) : (s.setRxd v).cfg = s.cfg := rfl
@[simp] theorem setRxd_cdcRx (s : State) (v : RxDetect) : (s.setRxd v).cdcRx = s.cdcRx := rfl
@[simp] theorem setRxd_rcfgCodec (s : State) (v : RxDetect) : (s.setRxd v).rcfgCodec = s.rcfgCodec := rfl
@[simp] theorem setRxd_al (s : State) (v : RxDetect) : (s.setRxd v).al = s.al := rfl
@[simp] theorem setRxd_dec (s : State) (v : RxDetect) : (s.setRxd v).dec = s.dec := rfl
@[simp] theorem setRxd_ebw (s : State) (v : RxDetect) : (s.setRxd v).ebw = s.ebw := rfl
@[simp] theorem setRxd_mem (s : State) (v : RxDetect) : (s.setRxd v).mem = s.mem := rfl
@[simp] theorem setRxd_sync (s : State) (v : RxDetect) : (s.setRxd v).sync = s.sync := rfl
@[simp] theorem setRxd_ctl (s : State) (v : RxDetect) : (s.setRxd v).ctl = s.ctl := rfl
@[simp] theorem setRxd_lc (s : State) (v : RxDetect) : (s.setRxd v).lc = s.lc := rfl
@[simp] theorem setRxd_cdc (s : State) (v : RxDetect) : (s.setRxd v).cdc = s.cdc := rfl
@[simp] theorem setRxd_idl (s : State) (v : RxDetect) : (s.setRxd v).idl = s.idl := rfl
@[simp] theorem setRxd_ebr (s : State) (v : RxDetect) : (s.setRxd v).ebr = s.ebr := rfl
@[simp] theorem setRxd_scr (s : State) (v : RxDetect) : (s.setRxd v).scr = s.scr := rfl
@[simp] theorem setRxd_dsc (s : State) (v : RxDetect) : (s.setRxd v).dsc = s.dsc := rfl
@[simp] theorem setRxd_enc (s : State) (v : RxDetect) : (s.setRxd v).enc = s.enc := rfl
@[simp] theorem setRxd_pa (s : State) (v : RxDetect) : (s.setRxd v).pa = s.pa := rfl
@[simp] theorem setRxd_rxd (s : State) (v : RxDetect) : (s.setRxd v).rxd = v := rfl
@[simp] theorem setRxd_net (s : State) (v : RxDetect) : (s.setRxd v).net = s.net := rfl
@[simp] theorem setRxd_inp (s : State) (v : RxDetect) : (s.setRxd v).inp = s.inp := rfl
@[simp] theorem setRxd_cross (s : State) (v : RxDetect) : (s.setRxd v).cross = s.cross := rfl
@[simp] theorem setRxd_stim (s : State) (v : RxDetect) : (s.setRxd v).stim = s.stim := rfl
@[simp] theorem setRxd_tick (s : State) (v : RxDetect) : (s.setRxd v).tick = s.tick := rfl
@[simp] theorem setNet_cfg (s : State) (v : Nets) : (s.setNet v).cfg = s.cfg := rfl
@[simp] theorem setNet_cdcRx (s : State) (v : Nets) : (s.setNet v).cdcRx = s.cdcRx := rfl
@[simp] theorem setNet_rcfgCodec (s : State) (v : Nets) : (s.setNet v).rcfgCodec = s.rcfgCodec := rfl
@[simp] theorem setNet_al (s : State) (v : Nets) : (s.setNet v).al = s.al := rfl
@[simp] theorem setNet_dec (s : State) (v : Nets) : (s.setNet v).dec = s.dec := rfl
@[simp] theorem setNet_ebw (s : State) (v : Nets) : (s.setNet v).ebw = s.ebw := rfl
@[simp] theorem setNet_mem (s : State) (v : Nets) : (s.setNet v).mem = s.mem := rfl
@[simp] theorem setNet_sync (s : State) (v : Nets) : (s.setNet v).sync = s.sync := rfl
@[simp] theorem setNet_ctl (s : State) (v : Nets) : (s.setNet v).ctl = s.ctl := rfl
@[simp] theorem setNet_lc (s : State) (v : Nets) : (s.setNet v).lc = s.lc := rfl
@[simp] theorem setNet_cdc (s : State) (v : Nets) : (s.setNet v).cdc = s.cdc := rfl
@[simp] theorem setNet_idl (s : State) (v : Nets) : (s.setNet v).idl = s.idl := rfl
@[simp] theorem setNet_ebr (s : State) (v : Nets) : (s.setNet v).ebr = s.ebr := rfl
@[simp] theorem setNet_scr (s : State) (v : Nets) : (s.setNet v).scr = s.scr := rfl
@[simp] theorem setNet_dsc (s : State) (v : Nets) : (s.setNet v).dsc = s.dsc := rfl
@[simp] theorem setNet_enc (s : State) (v : Nets) : (s.setNet v).enc = s.enc := rfl
@[simp] theorem setNet_pa (s : State) (v : Nets) : (s.setNet v).pa = s.pa := rfl
@[simp] theorem setNet_rxd (s : State) (v : Nets) : (s.setNet v).rxd = s.rxd := rfl
@[simp] theorem setNet_net (s : State) (v : Nets) : (s.setNet v).net = v := rfl
@[simp] theorem setNet_inp (s : State) (v : Nets) : (s.setNet v).inp = s.inp := rfl
@[simp] theorem setNet_cross (s : State) (v : Nets) : (s.setNet v).cross = s.cross := rfl
@[simp] theorem setNet_stim (s : State) (v : Nets) : (s.setNet v).stim = s.stim := rfl
@[simp] theorem setNet_tick (s : State) (v : Nets) : (s.setNet v).tick = s.tick := rfl
@[simp] theorem setInp_cfg (s : State) (v : Inputs) : (s.setInp v).cfg = s.cfg := rfl
@[simp] theorem setInp_cdcRx (s : State) (v : Inputs) : (s.setInp v).cdcRx = s.cdcRx := rfl
@[simp] theorem setInp_rcfgCodec (s : State) (v : Inputs) : (s.setInp v).rcfgCodec = s.rcfgCodec := rfl
@[simp] theorem setInp_al (s : State) (v : Inputs) : (s.setInp v).al = s.al := rfl
@[simp] theorem setInp_dec (s : State) (v : Inputs) : (s.setInp v).dec = s.dec := rfl
@[simp] theorem setInp_ebw (s : State) (v : Inputs) : (s.setInp v).ebw = s.ebw := rfl
@[simp] theorem setInp_mem (s : State) (v : Inputs) : (s.setInp v).mem = s.mem := rfl
@[simp] theorem setInp_sync (s : State) (v : Inputs) : (s.setInp v).sync = s.sync := rfl
@[simp] theorem setInp_ctl (s : State) (v : Inputs) : (s.setInp v).ctl = s.ctl := rfl
@[simp] theorem setInp_lc (s : State) (v : Inputs) : (s.setInp v).lc = s.lc := rfl
@[simp] theorem setInp_cdc (s : State) (v : Inputs) : (s.setInp v).cdc = s.cdc := rfl
@[simp] theorem setInp_idl (s : State) (v : Inputs) : (s.setInp v).idl = s.idl := rfl
@[simp] theorem setInp_ebr (s : State) (v : Inputs) : (s.setInp v).ebr = s.ebr := rfl
@[simp] theorem setInp_scr (s : State) (v : Inputs) : (s.setInp v).scr = s.scr := rfl
@[simp] theorem setInp_dsc (s : State) (v : Inputs) : (s.setInp v).dsc = s.dsc := rfl
@[simp] theorem setInp_enc (s : State) (v : Inputs) : (s.setInp v).enc = s.enc := rfl
@[simp] theorem setInp_pa (s : State) (v : Inputs) : (s.setInp v).pa = s.pa := rfl
@[simp] theorem setInp_rxd (s : State) (v : Inputs) : (s.setInp v).rxd = s.rxd := rfl
@[simp] theorem setInp_net (s : State) (v : Inputs) : (s.setInp v).net = s.net := rfl
@[simp] theorem setInp_inp (s : State) (v : Inputs) : (s.setInp v).inp = v := rfl
@[simp] theorem setInp_cross (s : State) (v : Inputs) : (s.setInp v).cross = s.cross := rfl
@[simp] theorem setInp_stim (s : State) (v : Inputs) : (s.setInp v).stim = s.stim := rfl
@[simp] theorem setInp_tick (s : State) (v : Inputs) : (s.setInp v).tick = s.tick := rfl
@[simp] theorem setCross_cfg (s : State) (v : Cross) : (s.setCross v).cfg = s.cfg := rfl
@[simp] theorem setCross_cdcRx (s : State) (v : Cross) : (s.setCross v).cdcRx = s.cdcRx := rfl
@[simp] theorem setCross_rcfgCodec (s : State) (v : Cross) : (s.setCross v).rcfgCodec = s.rcfgCodec := rfl
@[simp] theorem setCross_al (s : State) (v : Cross) : (s.setCross v).al = s.al := rfl
@[simp] theorem setCross_dec (s : State) (v : Cross) : (s.setCross v).dec = s.dec := rfl
@[simp] theorem setCross_ebw (s : State) (v : Cross) : (s.setCross v).ebw = s.ebw := rfl
@[simp] theorem setCross_mem (s : State) (v : Cross) : (s.setCross v).mem = s.mem := rfl
@[simp] theorem setCross_sync (s : State) (v : Cross) : (s.setCross v).sync = s.sync := rfl
@[simp] theorem setCross_ctl (s : State) (v : Cross) : (s.setCross v).ctl = s.ctl := rfl
@[simp] theorem setCross_lc (s : State) (v : Cross) : (s.setCross v).lc = s.lc := rfl
@[simp] theorem setCross_cdc (s : State) (v : Cross) : (s.setCross v).cdc = s.cdc := rfl
@[simp] theorem setCross_idl (s : State) (v : Cross) : (s.setCross v).idl = s.idl := rfl
@[simp] theorem setCross_ebr (s : State) (v : Cross) : (s.setCross v).ebr = s.ebr := rfl
@[simp] theorem setCross_scr (s : State) (v : Cross) : (s.setCross v).scr = s.scr := rfl
@[simp] theorem setCross_dsc (s : State) (v : Cross) : (s.setCross v).dsc = s.dsc := rfl
@[simp] theorem setCross_enc (s : State) (v : Cross) : (s.setCross v).enc = s.enc := rfl
@[simp] theorem setCross_pa (s : State) (v : Cross) : (s.setCross v).pa = s.pa := rfl
@[simp] theorem setCross_rxd (s : State) (v : Cross) : (s.setCross v).rxd = s.rxd := rfl
@[simp] theorem setCross_net (s : State) (v : Cross) : (s.setCross v).net = s.net := rfl
@[simp] theorem setCross_inp (s : State) (v : Cross) : (s.setCross v).inp = s.inp := rfl
@[simp] theorem setCross_cross (s : State) (v : Cross) : (s.setCross v).cross = v := rfl
@[simp] theorem setCross_stim (s : State) (v : Cross) : (s.setCross v).stim = s.stim := rfl
@[simp] theorem setCross_tick (s : State) (v : Cross) : (s.setCross v).tick = s.tick := rfl
@[simp] theorem setStim_cfg (s : State) (v : List Stimulus) : (s.setStim v).cfg = s.cfg := rfl
@[simp] theorem setStim_cdcRx (s : State) (v : List Stimulus) : (s.setStim v).cdcRx = s.cdcRx := rfl
@[simp] theorem setStim_rcfgCodec (s : State) (v : List Stimulus) : (s.setStim v).rcfgCodec = s.rcfgCodec := rfl
@[simp] theorem setStim_al (s : State) (v : List Stimulus) : (s.setStim v).al = s.al := rfl
@[simp] theorem setStim_dec (s : State) (v : List Stimulus) : (s.setStim v).dec = s.dec := rfl
@[simp] theorem setStim_ebw (s : State) (v : List Stimulus) : (s.setStim v).ebw = s.ebw := rfl
@[simp] theorem setStim_mem (s : State) (v : List Stimulus) : (s.setStim v).mem = s.mem := rfl
@[simp] theorem setStim_sync (s : State) (v : List Stimulus) : (s.setStim v).sync = s.sync := rfl
@[simp] theorem setStim_ctl (s : State) (v : List Stimulus) : (s.setStim v).ctl = s.ctl := rfl
@[simp] theorem setStim_lc (s : State) (v : List Stimulus) : (s.setStim v).lc = s.lc := rfl
@[simp] theorem setStim_cdc (s : State) (v : List Stimulus) : (s.setStim v).cdc = s.cdc := rfl
@[simp] theorem setStim_idl (s : State) (v : List Stimulus) : (s.setStim v).idl = s.idl := rfl
@[simp] theorem setStim_ebr (s : State) (v : List Stimulus) : (s.setStim v).ebr = s.ebr := rfl
@[simp] theorem setStim_scr (s : State) (v : List Stimulus) : (s.setStim v).scr = s.scr := rfl
@[simp] theorem setStim_dsc (s : State) (v : List Stimulus) : (s.setStim v).dsc = s.dsc := rfl
@[simp] theorem setStim_enc (s : State) (v : List Stimulus) : (s.setStim v).enc = s.enc := rfl
@[simp] theorem setStim_pa (s : State) (v : List Stimulus) : (s.setStim v).pa = s.pa := rfl
@[simp] theorem setStim_rxd (s : State) (v : List Stimulus) : (s.setStim v).rxd = s.rxd := rfl
@[simp] theorem setStim_net (s : State) (v : List Stimulus) : (s.setStim v).net = s.net := rfl
@[simp] theorem setStim_inp (s : State) (v : List Stimulus) : (s.setStim v).inp = s.inp := rfl
@[simp] theorem setStim_cross (s : State) (v : List Stimulus) : (s.setStim v).cross = s.cross := rfl
@[simp] theorem setStim_stim (s : State) (v : List Stimulus) : (s.setStim v).stim = v := rfl
@[simp] theorem setStim_tick (s : State) (v : List Stimulus) : (s.setStim v).tick = s.tick := rfl
@[simp] theorem setTick_cfg (s : State) (v : Nat) : (s.setTick v).cfg = s.cfg := rfl
@[simp] theorem setTick_cdcRx (s : State) (v : Nat) : (s.setTick v).cdcRx = s.cdcRx := rfl
@[simp] theorem setTick_rcfgCodec (s : State) (v : Nat) : (s.setTick v).rcfgCodec = s.rcfgCodec := rfl
@[simp] theorem setTick_al (s : State) (v : Nat) : (s.setTick v).al = s.al := rfl
@[simp] theorem setTick_dec (s : State) (v : Nat) : (s.setTick v).dec = s.dec := rfl
@[simp] theorem setTick_ebw (s : State) (v : Nat) : (s.setTick v).ebw = s.ebw := rfl
@[simp] theorem setTick_mem (s : State) (v : Nat) : (s.setTick v).mem = s.mem := rfl
@[simp] theorem setTick_sync (s : State) (v : Nat) : (s.setTick v).sync = s.sync := rfl
@[simp] theorem setTick_ctl (s : State) (v : Nat) : (s.setTick v).ctl = s.ctl := rfl
@[simp] theorem setTick_lc (s : State) (v : Nat) : (s.setTick v).lc = s.lc := rfl
@[simp] theorem setTick_cdc (s : State) (v : Nat) : (s.setTick v).cdc = s.cdc := rfl
@[simp] theorem setTick_idl (s : State) (v : Nat) : (s.setTick v).idl = s.idl := rfl
@[simp] theorem setTick_ebr (s : State) (v : Nat) : (s.setTick v).ebr = s.ebr := rfl
@[simp] theorem setTick_scr (s : State) (v : Nat) : (s.setTick v).scr = s.scr := rfl
@[simp] theorem setTick_dsc (s : State) (v : Nat) : (s.setTick v).dsc = s.dsc := rfl
@[simp] theorem setTick_enc (s : State) (v : Nat) : (s.setTick v).enc = s.enc := rfl
@[simp] theorem setTick_pa (s : State) (v : Nat) : (s.setTick v).pa = s.pa := rfl
@[simp] theorem setTick_rxd (s : State) (v : Nat) : (s.setTick v).rxd = s.rxd := rfl
@[simp] theorem setTick_net (s : State) (v : Nat) : (s.setTick v).net = s.net := rfl
@[simp] theorem setTick_inp (s : State) (v : Nat) : (s.setTick v).inp = s.inp := rfl
@[simp] theorem setTick_cross (s : State) (v : Nat) : (s.setTick v).cross = s.cross := rfl
@[simp] theorem setTick_stim (s : State) (v : Nat) : (s.setTick v).stim = s.stim := rfl
@[simp] theorem setTick_tick (s : State) (v : Nat) : (s.setTick v).tick = v := rfl

@[simp] theorem inst_scr (s : State) : s.inst .scr = s.scr := rfl
@[simp] theorem inst_dsc (s : State) : s.inst .dsc = s.dsc := rfl
@[simp] theorem setInst_scr (s : State) (v : Scrambler) : s.setInst .scr v = s.setScr v := rfl
@[simp] theorem setInst_dsc (s : State) (v : Scrambler) : s.setInst .dsc v = s.setDsc v := rfl
@[simp] theorem setInst_cfg (s : State) (p : ScrInst) (v : Scrambler) : (s.setInst p v).cfg = s.cfg := by
  cases p <;> rfl
@[simp] theorem setInst_cdcRx (s : State) (p : ScrInst) (v : Scrambler) : (s.setInst p v).cdcRx = s.cdcRx := by
  cases p <;> rfl
@[simp] theorem setInst_rcfgCodec (s : State) (p : ScrInst) (v : Scrambler) : (s.setInst p v).rcfgCodec = s.rcfgCodec := by
  cases p <;> rfl
@[simp] theorem setInst_al (s : State) (p : ScrInst) (v : Scrambler) : (s.setInst p v).al = s.al := by
  cases p <;> rfl
@[simp] theorem setInst_dec (s : State) (p : ScrInst) (v : Scrambler) : (s.setInst p v).dec = s.dec := by
  cases p <;> rfl
@[simp] theorem setInst_ebw (s : State) (p : ScrInst) (v : Scrambler) : (s.setInst p v).ebw = s.ebw := by
  cases p <;> rfl
@[simp] theorem setInst_mem (s : State) (p : ScrInst) (v : Scrambler) : (s.setInst p v).mem = s.mem := by
  cases p <;> rfl
@[simp] theorem setInst_sync (s : State) (p : ScrInst) (v : Scrambler) : (s.setInst p v).sync = s.sync := by
  cases p <;> rfl
@[simp] theorem setInst_ctl (s : State) (p : ScrInst) (v : Scrambler) : (s.setInst p v).ctl = s.ctl := by
  cases p <;> rfl
@[simp] theorem setInst_lc (s : State) (p : ScrInst) (v : Scrambler) : (s.setInst p v).lc = s.lc := by
  cases p <;> rfl
@[simp] theorem setInst_cdc (s : State) (p : ScrInst) (v : Scrambler) : (s.setInst p v).cdc = s.cdc := by
  cases p <;> rfl
@[simp] theorem setInst_idl (s : State) (p : ScrInst) (v : Scrambler) : (s.setInst p v).idl = s.idl := by
  cases p <;> rfl
@[simp] theorem setInst_ebr (s : State) (p : ScrInst) (v : Scrambler) : (s.setInst p v).ebr = s.ebr := by
  cases p <;> rfl
@[simp] theorem setInst_enc (s : State) (p : ScrInst) (v : Scrambler) : (s.setInst p v).enc = s.enc := by
  cases p <;> rfl
@[simp] theorem setInst_pa (s : State) (p : ScrInst) (v : Scrambler) : (s.setInst p v).pa = s.pa := by
  cases p <;> rfl
@[simp] theorem setInst_rxd (s : State) (p : ScrInst) (v : Scrambler) : (s.setInst p v).rxd = s.rxd := by
  cases p <;> rfl
@[simp] theorem setInst_net (s : State) (p : ScrInst) (v : Scrambler) : (s.setInst p v).net = s.net := by
  cases p <;> rfl
@[simp] theorem setInst_inp (s : State) (p : ScrInst) (v : Scrambler) : (s.setInst p v).inp = s.inp := by
  cases p <;> rfl
@[simp] theorem setInst_cross (s : State) (p : ScrInst) (v : Scrambler) : (s.setInst p v).cross = s.cross := by
  cases p <;> rfl
@[simp] theorem setInst_stim (s : State) (p : ScrInst) (v : Scrambler) : (s.setInst p v).stim = s.stim := by
  cases p <;> rfl
@[simp] theorem setInst_tick (s : State) (p : ScrInst) (v : Scrambler) : (s.setInst p v).tick = s.tick := by
  cases p <;> rfl
@[simp] theorem setInst_inst (s : State) (p : ScrInst) (v : Scrambler) : (s.setInst p v).inst p = v := by
  cases p <;> rfl

end Sys2Proof.Machine
end

