-- ==== Sys2Proof/Laws/Ops.lean ====
section
/-! SUPPORT. What each shared operation can do, said once: the component it replaces and by what, so that a
proof cites the lemma and unfolds nothing. -/

namespace Sys2Proof.Machine

-- The `sample` reads

/-- A one-bit sample is the old or the present value. -/
theorem sampleBit_cases (moved pick old now : Bool) :
    sampleBit moved pick old now = old ∨ sampleBit moved pick old now = now := by
  unfold sampleBit; split <;> simp

/-- A many-bit sample has no bit above those of its two sources. -/
theorem sampleNat_lt {moved : Bool} {mask old now n : Nat} (ho : old < 2 ^ n) (hn : now < 2 ^ n) :
    sampleNat moved mask old now < 2 ^ n := by
  unfold sampleNat
  split
  · exact Nat.xor_lt_two_pow hn (lt_of_le_of_lt Nat.and_le_left (Nat.xor_lt_two_pow hn ho))
  · exact hn

/-- A Gray code has no bit above those of its number. -/
theorem gray_lt {x n : Nat} (h : x < 2 ^ n) : gray x < 2 ^ n :=
  Nat.xor_lt_two_pow h (lt_of_le_of_lt (Nat.div_le_self _ _) h)

/-- A decoded Gray code has no bit above those of the code. -/
theorem ungray_lt {n : Nat} : ∀ {k g : Nat}, g < 2 ^ n → ungray k g < 2 ^ n
  | 0, _, _ => Nat.two_pow_pos n
  | _ + 1, _, h => Nat.xor_lt_two_pow h (ungray_lt (lt_of_le_of_lt (Nat.div_le_self _ _) h))

/-- A pointer's next value fits. -/
theorem nextPtr_lt (s : State) (p : Nat) : s.nextPtr p < 2 ^ s.cfg.pb := Nat.mod_lt _ (Nat.two_pow_pos _)

/-- A fill view fits. -/
theorem subMod_lt (n a b : Nat) : subMod n a b < 2 ^ n := Nat.mod_lt _ (Nat.two_pow_pos _)

-- The RXCTL request and the controller

theorem raiseRequest_eq (s : State) (cmd : BitVec 4) :
    s.raiseRequest cmd = s.setCdc { req := true, cmd := cmd } := rfl
theorem lowerRequest_eq (s : State) : s.lowerRequest = s.setCdc { s.cdc with req := false } := rfl
theorem clearPulse_eq (s : State) : s.clearPulse = s.setCtl { s.ctl with phyStatus := false } := rfl
theorem pulse_eq (s : State) : s.pulse = s.setCtl { s.ctl with phyStatus := true } := rfl
theorem enter_eq (s : State) (q : CtlState) : s.enter q = s.setCtl { s.ctl with state := q } := rfl

/-- Taking a structural error replaces three registers of the controller. -/
theorem takeFatal_eq (s : State) (c : Cause) :
    s.takeFatal c = s.setCtl { s.ctl with cause := c, causeIsRate := false, state := .transition } := rfl

/-- The return from TRANSITION after a rate command: the pending rate becomes the active one. -/
theorem finishTransition_rate {s : State} (h : s.ctl.causeIsRate = true) :
    s.finishTransition =
      (s.setLc { s.lc with rate := s.lc.pendRate, power := 0 }).setCtl
        { s.ctl with rxCfgDone := false, state := .reset } := by simp [State.finishTransition, h]

/-- The return from TRANSITION after a structural error: the cause is recorded. -/
theorem finishTransition_error {s : State} (h : s.ctl.causeIsRate = false) :
    s.finishTransition =
      (s.setLc { s.lc with errCause := s.ctl.cause, power := 0 }).setCtl
        { s.ctl with rxCfgDone := false, state := .reset } := by simp [State.finishTransition, h]

-- The bridge

theorem syncRx_eq (s : State) :
    s.syncRx = (s.setCdcRx { reqR1 := s.sampleReq, reqR2 := s.cdcRx.reqR1, ack := s.cdcRx.ack }).setEbw
      { s.ebw with rgrayW1 := s.sampleRgray, rgrayW2 := s.ebw.rgrayW1 } := rfl

theorem syncCore_eq (s : State) :
    s.syncCore = s.setSync
      { ackC1 := s.sampleAck, ackC2 := s.sync.ackC1, wgrayC1 := s.sampleWgray, wgrayC2 := s.sync.wgrayC1,
        lockedC1 := s.sampleLocked, lockedC2 := s.sync.lockedC1, ovfC1 := s.sampleOvf,
        ovfC2 := s.sync.ovfC1, sdC1 := s.sampleSigdet, sdC2 := s.sync.sdC1 } := rfl

/-- The aligner's reset keeps nothing but the incoming word. -/
theorem realign_eq (s : State) :
    s.realign = s.setAl { prev := s.raw, offset := 0, conf := 0, locked := false, since := 0, outSym := 0,
                          outValid := false } := rfl

theorem flushWrite_eq (s : State) :
    s.flushWrite = s.setEbw { s.ebw with wptr := 0, ovf := false, delPending := false } := rfl

theorem resetDecoder_eq (s : State) :
    s.resetDecoder = s.setDec { s.dec with rd := .minus, rdKnown := false, outValid := false } := rfl

-- The aligner

/-- LOCKED rises only at the threshold, falls only at zero, and otherwise stays. -/
theorem lockedNext_cases (c : Params) (conf : Nat) (l : Bool) :
    (c.lockThreshold ≤ conf ∧ lockedNext c conf l = true) ∨
    (conf < c.lockThreshold ∧ conf = 0 ∧ lockedNext c conf l = false) ∨
    (conf < c.lockThreshold ∧ 0 < conf ∧ lockedNext c conf l = l) := by
  unfold lockedNext
  split
  · exact .inl ⟨‹_›, rfl⟩
  · split
    · exact .inr (.inl ⟨by omega, ‹_›, rfl⟩)
    · exact .inr (.inr ⟨by omega, by omega, rfl⟩)

/-- Every case of the aligner's step replaces the aligner's registers alone. -/
theorem alignTo_eq (s : State) (raw : Block) (o conf since : Nat) :
    s.alignTo raw o conf since = s.setAl
      { prev := rawWord s.rcfgCodec raw, offset := o, conf := conf,
        locked := lockedNext s.cfg conf s.al.locked, since := since, outSym := s.symbolAt raw o,
        outValid := lockedNext s.cfg conf s.al.locked } := rfl

/-- A marker is found inside the previous word. -/
theorem hits_lt {s : State} {raw : Block} {o : Nat} (h : o ∈ s.hits raw) : o < s.rcfgCodec.lineWidth := by
  simp only [State.hits, Sys2Proof.hits, List.mem_filter, List.mem_range] at h
  exact h.1

/-- A line symbol has at most 130 bits. -/
theorem lineWidth_le (c : Codec) : c.lineWidth ≤ 130 := by cases c <;> decide

-- The decoder

/-- The record of a known disparity is a symbol, a disparity error or a code error. -/
theorem decodeKnown_cases (rd : Rd) (v : Line10) :
    (∃ kb, Code10.decCol rd v = some kb ∧ decodeKnown rd v = pairRecord kb) ∨
    (∃ kb, Code10.decCol rd v = none ∧ Code10.decCol (Code10.flip rd) v = some kb ∧
      decodeKnown rd v = SymRec.bad .disp (kb.2.setWidth 128)) ∨
    (Code10.decCol rd v = none ∧ Code10.decCol (Code10.flip rd) v = none ∧
      decodeKnown rd v = SymRec.bad .code 0) := by
  unfold decodeKnown
  cases h : Code10.decCol rd v with
  | some kb => exact .inl ⟨kb, rfl, rfl⟩
  | none =>
    cases h' : Code10.decCol (Code10.flip rd) v with
    | some kb => exact .inr (.inl ⟨kb, rfl, rfl, rfl⟩)
    | none => exact .inr (.inr ⟨rfl, rfl, rfl⟩)

theorem decodeStep_eq (s : State) (v : Line10) :
    s.decodeStep v = s.setDec { rd := Code10.lineRd s.dec.rd v, rdKnown := true,
                                out := decodeKnown s.dec.rd v, outValid := true } := rfl

/-- An unknown disparity: the record delivered, and the disparity fixed or kept. -/
theorem acquireStep_cases (s : State) (v : Line10) :
    (∃ kb, s.acquireStep v = s.setDec { s.dec with out := pairRecord kb, outValid := true }) ∨
    (∃ kb rd, s.acquireStep v =
      s.setDec { rd := Code10.lineRd rd v, rdKnown := true, out := pairRecord kb, outValid := true }) ∨
    s.acquireStep v = s.setDec { s.dec with out := SymRec.bad .code 0, outValid := true } := by
  unfold State.acquireStep
  cases Code10.decCol .minus v with
  | some a =>
    cases Code10.decCol .plus v with
    | some b => exact .inl ⟨a, rfl⟩
    | none => exact .inr (.inl ⟨a, .minus, rfl⟩)
  | none =>
    cases Code10.decCol .plus v with
    | some b => exact .inr (.inl ⟨b, .plus, rfl⟩)
    | none => exact .inr (.inr rfl)

theorem deliver_eq (s : State) (r : SymRec) :
    s.deliver r = s.setDec { s.dec with out := r, outValid := true } := rfl

@[simp] theorem good_ok (k : Bool) (d : Payload) : (SymRec.good k d).ok = true := by
  cases k <;> rfl
@[simp] theorem bad_ok_code (d : Payload) : (SymRec.bad .code d).ok = true := rfl
@[simp] theorem bad_ok_disp (d : Payload) : (SymRec.bad .disp d).ok = true := rfl
@[simp] theorem pairRecord_ok (kb : Bool × Byte) : (pairRecord kb).ok = true := good_ok _ _

-- The scrambler and the encoder

theorem scrambled_eq (s : State) (p : ScrInst) (out : SymRec) (l : Lfsr) :
    s.scrambled p out l = s.setInst p { s.inst p with lfsr := l, run := true, out := out, outValid := true } :=
  rfl

/-- An instance is written in one piece, whatever was written to it before. -/
@[simp] theorem setInst_setInst (s : State) (p : ScrInst) (v w : Scrambler) :
    (s.setInst p v).setInst p w = s.setInst p w := by cases p <;> rfl

/-- The tracker's four cases. -/
theorem track_cases (aft : Bool) (cnt : Nat) (r : SymRec) :
    track aft cnt r = (false, true, 0) ∨ track aft cnt r = (true, false, 14) ∨
    track aft cnt r = (false, false, 0) ∨ track aft cnt r = (true, false, cnt - 1) := by
  unfold track
  split
  · exact .inl rfl
  · split
    · split
      · exact .inr (.inl rfl)
      · exact .inr (.inr (.inl rfl))
    · split
      · exact .inr (.inr (.inr rfl))
      · exact .inr (.inr (.inl rfl))

theorem send10_eq (s : State) (k : Bool) (b : Byte) (e : Bool) :
    s.send10 k b e = s.setEnc
      { rd := (Code10.enc10 k b s.enc.rd).2, outWord := (Code10.enc10 k b s.enc.rd).1.setWidth 130,
        outValid := true, kerr := e } := rfl

theorem send130_eq (s : State) (k : Bool) (d : Payload) :
    s.send130 k d = s.setEnc { s.enc with outWord := enc130 k d, outValid := true, kerr := false } := rfl

/-- The hard reset, component by component. -/
theorem hardReset_eq (s : State) :
    s.hardReset = { s with
      ctl := Ctl.init, lc := LinkConfig.init s.cfg, cdc := { req := false, cmd := 0 }
      idl := { cnt := 0, present := false }
      ebr := { rptr := 0, rdState := .held, unf := false, out := s.ebr.out, outValid := false }
      scr := { Scrambler.init s.cfg with out := s.scr.out }
      dsc := { Scrambler.init s.cfg with out := s.dsc.out }
      enc := { rd := .minus, outWord := s.enc.outWord, outValid := false, kerr := false }
      pa := { rxData := 0, rxK := false, rxValid := false, rxStatus := .ok }
      rxd := { busy := false, done := false, present := false } } := rfl

-- The command wires

/-- The seven command pins, taken apart again. -/
theorem commandPins_fields (m : MacPins) :
    (commandPins m).extractLsb' 4 2 = m.rate ∧ (commandPins m).extractLsb' 2 2 = m.powerdown ∧
    (commandPins m).getLsbD 1 = m.txElecidle ∧ (commandPins m).getLsbD 0 = m.txDetectrx ∧
    (commandPins m).getLsbD 6 = m.resetN := by
  have key : ∀ (n : Bool) (r p : BitVec 2) (e d : Bool),
      let v := BitVec.ofNat 7 ((if d then 1 else 0) + 2 * ((if e then 1 else 0) +
        2 * (p.toNat + 4 * (r.toNat + 4 * (if n then 1 else 0)))))
      v.extractLsb' 4 2 = r ∧ v.extractLsb' 2 2 = p ∧ v.getLsbD 1 = e ∧ v.getLsbD 0 = d ∧ v.getLsbD 6 = n := by
    decide
  exact key m.resetN m.rate m.powerdown m.txElecidle m.txDetectrx

-- `exec` as a whole

/-- `EB.WRITE` answers exactly where its slot exists. -/
theorem execEbWrite_eq {s : State} {r : SymRec} (h : 0 < s.cfg.bufferDepth) :
    execEbWrite r s = .next
      ((s.setMem (s.mem.write (s.ebw.wptr % s.cfg.bufferDepth) (Slot.ofRec r s.ebw.delPending))).setEbw
        { s.ebw with wptr := s.nextPtr s.ebw.wptr, delPending := false }) := by
  simp [execEbWrite, writeSlot_lt (Nat.mod_lt s.ebw.wptr h)]

/-- Every operation answers a next state where the slot array has a slot. -/
theorem exec_answers (i : Instr) (s : State) (h : 0 < s.cfg.bufferDepth) : ∃ t, exec i s = .next t := by
  cases i with
  | ebWrite r => exact ⟨_, execEbWrite_eq h⟩
  | cdcSync a => cases a <;> exact ⟨_, rfl⟩
  | _ => exact ⟨_, rfl⟩

end Sys2Proof.Machine
end

