-- ==== Sys2Proof/Laws/Local.lean ====
section
/-! SUPPORT. Locality: the operation a component selects at a state `n`, performed at any state `s` that
agrees with `n` where that operation looks, replaces that component's registers and nothing else, by the
value it gives at `n`. -/

namespace Sys2Proof.Machine

set_option Elab.async false

/-- The state an operation leads to; the state itself where it does not answer. -/
def after (i : Instr) (s : State) : State :=
  match exec i s with
  | .next t => t
  | .fault _ => s
  | .refused _ => s

/-- The state a list of operations leads to. -/
def afterAll (ops : List Instr) (s : State) : State := ops.foldl (fun t i => after i t) s

theorem after_of_exec {i : Instr} {s t : State} (h : exec i s = .next t) : after i s = t := by
  simp [after, h]

@[simp] theorem afterAll_nil (s : State) : afterAll [] s = s := rfl
@[simp] theorem afterAll_cons (i : Instr) (l : List Instr) (s : State) :
    afterAll (i :: l) s = afterAll l (after i s) := rfl

@[simp] theorem runOps_nil (s : State) : runOps [] s = .next s := rfl

/-- Performing a list is performing its first operation and then the rest. -/
theorem runOps_cons_next {i : Instr} {s t : State} (h : exec i s = .next t) (l : List Instr) :
    runOps (i :: l) s = runOps l t := by simp [runOps, h]

/-- A list that answers did so at its first operation. -/
theorem runOps_cons_inv {i : Instr} {l : List Instr} {s t : State} (h : runOps (i :: l) s = .next t) :
    ∃ u, exec i s = .next u ∧ runOps l u = .next t := by
  unfold runOps at h
  split at h
  · exact ⟨_, ‹_›, h⟩
  · cases h
  · cases h

/-- Two lists, one after the other. -/
theorem runOps_append_next {l m : List Instr} {s t : State} (h : runOps l s = .next t) :
    runOps (l ++ m) s = runOps m t := by
  induction l generalizing s with
  | nil => simp only [runOps_nil, Host.Outcome.next.injEq] at h; simp [h]
  | cons i l ih =>
    obtain ⟨u, hu, hl⟩ := runOps_cons_inv h
    rw [List.cons_append, runOps_cons_next hu]
    exact ih hl

/-- With a slot to write, a list of operations answers. -/
theorem exec_cfg {i : Instr} {s t : State} (h : exec i s = .next t) : t.cfg = s.cfg := by
  cases i with
  | ebWrite r =>
    simp only [exec, execEbWrite] at h
    split at h
    · obtain ⟨_, rfl⟩ := writeSlot_next ‹_›
      cases h; rfl
    · cases h
    · cases h
  | cdcSync a => cases a <;> (cases h; rfl)
  | alStepTimeout => simp only [exec, execAlStepTimeout] at h; cases h; split <;> rfl
  | dec10Acq v =>
    simp only [exec, execDec10Acq] at h
    cases h
    rcases acquireStep_cases s v with ⟨_, h⟩ | ⟨_, _, h⟩ | h <;> rw [h] <;> rfl
  | ctlCodec => simp only [exec, execCtlCodec] at h; cases h; split <;> rfl
  | scrStop p => cases p <;> (cases h; rfl)
  | scrStart p => cases p <;> (cases h; rfl)
  | scrBubble p => cases p <;> (cases h; rfl)
  | ostStep p r => cases p <;> (cases h; rfl)
  | scr8Com p r => cases p <;> (cases h; rfl)
  | scr8Skp p r => cases p <;> (cases h; rfl)
  | scr8Ctl p r => cases p <;> (cases h; rfl)
  | scr8Bypass p r => cases p <;> (cases h; rfl)
  | scr8Data p r => cases p <;> (cases h; rfl)
  | scr8Err p r => cases p <;> (cases h; rfl)
  | scr128Data p r => cases p <;> (cases h; rfl)
  | scr128Eieos p r => cases p <;> (cases h; rfl)
  | scr128Skp p r => cases p <;> (cases h; rfl)
  | scr128Os p r => cases p <;> (cases h; rfl)
  | scr128Err p r => cases p <;> (cases h; rfl)
  | _ => cases h; rfl

-- Agent RX

/-- The write side: `EB.WRITE` is selected only where there is a slot. -/
theorem write_local {n s : State} (hc : s.cfg = n.cfg) (hb : s.ebw = n.ebw) (hm : s.mem = n.mem) :
    exec (selectWrite n) s =
      .next ((s.setMem (after (selectWrite n) n).mem).setEbw (after (selectWrite n) n).ebw) := by
  unfold selectWrite
  split
  · simp [after, exec, execEbFlushw, flushWrite_eq, hb, ← hm]
    rfl
  · split
    · split
      · simp only [after, exec, execEbDelete, hb, setEbw_mem, ← hm]; rfl
      · split
        · simp only [after, exec, execEbOverflow, hb, setEbw_mem, ← hm]; rfl
        · have hd : 0 < n.cfg.bufferDepth := by omega
          have hd' : 0 < s.cfg.bufferDepth := hc ▸ hd
          simp only [after, exec, execEbWrite_eq hd, execEbWrite_eq hd', hb, hc, hm, State.nextPtr]; rfl
    · simp only [after, exec, execEbIdlew, ← hb, ← hm]; rfl

/-- The aligner. -/
theorem align_local {n s : State} (hc : s.cfg = n.cfg) (hi : s.inp = n.inp) (hr : s.rcfgCodec = n.rcfgCodec)
    (ha : s.al = n.al) :
    runOps (selectAlign n) s = .next (s.setAl (afterAll (selectAlign n) n).al) := by
  have hraw : s.raw = n.raw := by simp [State.raw, hr, hi]
  have hh : ∀ raw, s.hits raw = n.hits raw := fun raw => by simp [State.hits, hr, ha]
  have hs : ∀ raw o, s.symbolAt raw o = n.symbolAt raw o := fun raw o => by simp [State.symbolAt, hr, ha]
  have hto : ∀ v, exec .alStepTimeout (s.setAl v) = .next (s.setAl (after .alStepTimeout (n.setAl v)).al) := by
    intro v
    simp only [after, exec, execAlStepTimeout, setAl_cfg, setAl_al, hc]
    by_cases h : n.cfg.alignTimeout ≤ v.since <;> simp only [h, if_true, if_false] <;> rfl
  have hnone : exec (.alStepNone n.raw) s = .next (s.setAl (after (.alStepNone n.raw) n).al) := by
    simp [after, exec, execAlStepNone, alignTo_eq, hc, hr, ha, hs]
  have hmiss : exec (.alStepMiss n.raw) s = .next (s.setAl (after (.alStepMiss n.raw) n).al) := by
    simp [after, exec, execAlStepMiss, alignTo_eq, hc, hr, ha, hs]
  have two : ∀ i, (i = .alStepNone n.raw ∨ i = .alStepMiss n.raw) →
      runOps (i :: selectTimeout n) s = .next (s.setAl (afterAll (i :: selectTimeout n) n).al) := by
    intro i hi
    have he : exec i s = .next (s.setAl (after i n).al) := by rcases hi with rfl | rfl <;> assumption
    have hn : after i n = n.setAl (after i n).al := by rcases hi with rfl | rfl <;> rfl
    rw [runOps_cons_next he, afterAll_cons]
    unfold selectTimeout
    split
    · rw [runOps_cons_next (hto _), runOps_nil, afterAll_cons, afterAll_nil, ← hn]
    · rfl
  unfold selectAlign
  split
  · simp [runOps, after, exec, execAlReset, realign_eq, hraw]
  · split
    · split
      · rw [runOps_cons_next hnone]; rfl
      · simp [runOps, after, exec, execAlStepAcquire, alignTo_eq, hc, hr, ha, hs, hh]
    · split
      · simp [runOps, after, exec, execAlStepHit, alignTo_eq, hc, hr, ha, hs]
      · split
        · exact two _ (.inl rfl)
        · exact two _ (.inr rfl)

/-- A ten-bit word with unknown disparity. -/
theorem acquireStep_local {n s : State} (hd : s.dec = n.dec) (v : Line10) :
    s.acquireStep v = s.setDec (n.acquireStep v).dec := by
  unfold State.acquireStep
  rw [hd]
  split <;> rfl

/-- The decoder; a commanded reset also loads the codec bit. -/
theorem decode_local {n s : State} (hd : s.dec = n.dec) (hr : s.rcfgCodec = n.rcfgCodec)
    (hq : s.sampleCmd = n.sampleCmd) :
    exec (selectDecode n) s =
      .next ((s.setDec (after (selectDecode n) n).dec).setRcfgCodec (after (selectDecode n) n).rcfgCodec) := by
  have h0 : ∀ r : SymRec, s.deliver r = (s.setDec (n.deliver r).dec).setRcfgCodec n.rcfgCodec := by
    intro r; simp only [deliver_eq, hd, ← hr]; rfl
  have h1 : ∀ v, s.setDec v = (s.setDec v).setRcfgCodec n.rcfgCodec := fun v => by rw [← hr]; rfl
  have h2 : exec (.dec10Acq n.lineSymbol) s = .next
      ((s.setDec (after (.dec10Acq n.lineSymbol) n).dec).setRcfgCodec (after (.dec10Acq n.lineSymbol) n).rcfgCodec) := by
    have h3 : (n.acquireStep n.lineSymbol).rcfgCodec = n.rcfgCodec := by
      rcases acquireStep_cases n n.lineSymbol with ⟨_, h⟩ | ⟨_, _, h⟩ | h <;> rw [h] <;> rfl
    simp only [after, exec, execDec10Acq, h3]
    rw [acquireStep_local hd, ← h1]
  unfold selectDecode selectDec10 selectDec130
  split
  · simp only [after, exec, execDecReset, resetDecoder_eq, hd, hq]; rfl
  · split
    · split
      · split
        · split
          · simp only [after, exec, execDec10Ok, decodeStep_eq, hd, setDec_dec, setDec_rcfgCodec, ← h1]
          · split
            · simp only [after, exec, execDec10Disp, decodeStep_eq, hd, setDec_dec, setDec_rcfgCodec, ← h1]
            · simp only [after, exec, execDec10Code, decodeStep_eq, hd, setDec_dec, setDec_rcfgCodec, ← h1]
        · exact h2
      · split
        · simp only [after, exec, execDec130D, h0]; rfl
        · split
          · simp only [after, exec, execDec130Os, h0]; rfl
          · split
            · simp only [after, exec, execDec130Badsync00, h0]; rfl
            · simp only [after, exec, execDec130Badsync11, h0]; rfl
    · simp only [after, exec, execDecBubble, hd, setDec_dec, setDec_rcfgCodec, ← h1]

-- Agent CORE

/-- The encoder. -/
theorem encode_local {n s : State} (he : s.enc = n.enc) :
    exec (selectEncode n) s = .next (s.setEnc (after (selectEncode n) n).enc) := by
  have h10 : ∀ k b e, s.send10 k b e = s.setEnc (n.send10 k b e).enc := fun k b e => by
    simp [send10_eq, he]
  have h130 : ∀ k d, s.send130 k d = s.setEnc (n.send130 k d).enc := fun k d => by simp [send130_eq, he]
  unfold selectEncode
  split
  · simp only [after, exec, execEncReset, he]; rfl
  · split
    · split
      · split
        · split
          · simp only [after, exec, execEnc10K, h10]
          · simp only [after, exec, execEnc10Kinv, h10]
        · simp only [after, exec, execEnc10D, h10]
      · split
        · simp only [after, exec, execEnc130Os, h130]
        · simp only [after, exec, execEnc130D, h130]
    · simp only [after, exec, execEncBubble, he]; rfl

/-- One scrambler operation on a record of codec `C8B10B`, at a state that agrees with `n` on the
configuration and the instance's LFSR. -/
theorem scr8_local {n m s : State} {p : ScrInst} (r : SymRec) (hc : s.cfg = m.cfg)
    (hs : s.inst p = m.inst p) :
    exec (selectScr8 n p r) s = .next (s.setInst p ((after (selectScr8 n p r) m).inst p)) := by
  have h1 : ∀ o l, s.scrambled p o l = s.setInst p ((m.scrambled p o l).inst p) := fun o l => by
    simp [scrambled_eq, hs]
  have h2 : ∀ k, s.key p k = m.key p k := fun k => by simp [State.key, hs, hc]
  unfold selectScr8
  split
  · split
    · simp only [after, exec, execScr8Com, h1, hc]
    · split
      · simp only [after, exec, execScr8Skp, h1, hs]
      · simp only [after, exec, execScr8Ctl, h1, h2]
  · simp only [after, exec, execScr8Err, h1, h2]
  · split
    · simp only [after, exec, execScr8Bypass, h1, h2]
    · simp only [after, exec, execScr8Data, h1, h2]

/-- One scrambler operation on a record of codec `C128B130B`. -/
theorem scr128_local {m s : State} {p : ScrInst} (r : SymRec) (hc : s.cfg = m.cfg)
    (hs : s.inst p = m.inst p) :
    exec (selectScr128 p r) s = .next (s.setInst p ((after (selectScr128 p r) m).inst p)) := by
  have h1 : ∀ o l, s.scrambled p o l = s.setInst p ((m.scrambled p o l).inst p) := fun o l => by
    simp [scrambled_eq, hs]
  have h2 : ∀ k, s.key p k = m.key p k := fun k => by simp [State.key, hs, hc]
  unfold selectScr128
  split
  · simp only [after, exec, execScr128Data, h1, h2]
  · split
    · simp only [after, exec, execScr128Eieos, h1, hc]
    · split
      · simp only [after, exec, execScr128Skp, h1, hs]
      · simp only [after, exec, execScr128Os, h1, h2]
  · simp only [after, exec, execScr128Err, h1, h2]

/-- One scrambler instance. -/
theorem scramble_local {n s : State} {p : ScrInst} (hc : s.cfg = n.cfg) (hl : s.lc.codec = n.lc.codec)
    (hs : s.inst p = n.inst p) :
    runOps (selectScr n p) s = .next (s.setInst p ((afterAll (selectScr n p) n).inst p)) := by
  have start : ∀ t : State, exec (.scrStart p) t = .next (t.setInst p { t.inst p with run := true }) :=
    fun _ => rfl
  have step : ∀ (t : State) (r : SymRec), exec (.ostStep p r) t =
      .next (t.setInst p { t.inst p with aft := (track (t.inst p).aft (t.inst p).cnt r).2.1,
                                         cnt := (track (t.inst p).aft (t.inst p).cnt r).2.2 }) :=
    fun _ _ => rfl
  unfold selectScr
  split
  · rw [runOps_cons_next (start s), afterAll_cons, after_of_exec (start n), hs]
    split
    · split
      · rw [runOps_cons_next (step _ _), afterAll_cons, after_of_exec (step _ _)]
        simp only [setInst_inst, setInst_setInst]
        rw [runOps_cons_next (scr8_local (m := n.setInst p _) _ (by simp [hc]) (by simp; rfl)),
          runOps_nil, afterAll_cons, afterAll_nil, setInst_setInst]
      · rw [runOps_cons_next (scr128_local (m := n.setInst p _) _ (by simp [hc]) (by simp; rfl)),
          runOps_nil, afterAll_cons, afterAll_nil, setInst_setInst]
    · simp [runOps, after, exec, execScrBubble]
  · simp [runOps, after, exec, execScrStop, hs, hc, hl]

/-- The read side. -/
theorem read_local {n s : State} (hc : s.cfg = n.cfg) (hr : s.ebr = n.ebr) (hs : s.sync = n.sync) :
    exec (selectRead n) s = .next (s.setEbr (after (selectRead n) n).ebr) := by
  have hf : s.fillR = n.fillR := by simp [State.fillR, hc, hr, hs]
  have hp : ∀ x, s.nextPtr x = n.nextPtr x := fun x => by simp [State.nextPtr, hc]
  unfold selectRead
  split
  · simp only [after, exec, execEbFlushr, hr]; rfl
  · split
    · simp only [after, exec, execEbPrime, hr, hs]; rfl
    · simp only [after, exec, execEbStart, hr, hf, hc]; rfl
    · split
      · simp only [after, exec, execEbUnderflow, hr]; rfl
      · split
        · simp only [after, exec, execEbInsert, hr]; rfl
        · simp only [after, exec, execEbRead, hr, hp]; rfl

/-- The receiver-detect registers: they change alone, but for the completion pulse of a completed
detection. -/
theorem rxd_local {n s : State} (hr : s.rxd = n.rxd) (hi : s.inp = n.inp) :
    runOps (selectRxd n) s = .next ((s.setRxd (afterAll (selectRxd n) n).rxd).setCtl
      { s.ctl with phyStatus := s.ctl.phyStatus || decide (selectRxd n = [.rxdDone]) }) := by
  unfold selectRxd
  split
  · split
    · simp only [runOps, exec, execRxdDone, afterAll_cons, afterAll_nil, after, pulse_eq, hi]
      simp; rfl
    · simp only [runOps, afterAll_nil, ← hr]; simp; rfl
  · split
    · simp only [runOps, exec, execRxdClear, afterAll_cons, afterAll_nil, after, hr]; simp; rfl
    · split
      · simp only [runOps, exec, execRxdStart, afterAll_cons, afterAll_nil, after, hr]; simp; rfl
      · simp only [runOps, afterAll_nil, ← hr]; simp; rfl

end Sys2Proof.Machine
end

