-- ==== Sys2Proof/Laws/PerInstr.lean ====
section
/-! SUPPORT. The per-instruction family `EncodingFits`: an operation's own format fits below its row tag in
the operation word (log entry 2), so that the tag reads back the row. -/

namespace Sys2Proof.Laws

-- one theorem at a time: eighty theorems elaborated side by side outgrow the checker's memory
set_option Elab.async false

theorem bit_lt (b : Bool) : Sys2Proof.bit b < 2 := by cases b <;> decide
theorem tag_lt (t : Tag) : t.num < 3 := by cases t <;> decide
theorem ek_lt (k : Ek) : k.num < 3 := by cases k <;> decide
theorem codec_lt (c : Codec) : c.num < 2 := by cases c <;> decide
theorem inst_lt (p : ScrInst) : p.num < 2 := by cases p <;> decide
theorem agent_lt (a : Agent) : a.num < 2 := by cases a <;> decide
theorem cause_lt (c : Cause) : c.num < 7 := by cases c <;> decide
theorem ctlState_lt (q : CtlState) : q.num < 7 := by cases q <;> decide

/-- A record fits in the 134 bits of `SYMREC`. -/
theorem symRec_bits_lt (r : SymRec) : r.bits < 2 ^ 134 := by
  have h := r.data.isLt
  have h1 := tag_lt r.tag
  have h2 := ek_lt r.ek
  have h3 := bit_lt r.dl
  have h4 := bit_lt r.ins
  unfold SymRec.bits
  omega

/-- A slot fits in the 133 bits of `SLOT`. -/
theorem slot_bits_lt (h : Slot) : h.bits < 2 ^ 133 := by
  have h0 := h.data.isLt
  have h1 := tag_lt h.tag
  have h2 := ek_lt h.ek
  have h3 := bit_lt h.dl
  unfold Slot.bits
  omega

/-- A record viewed as `SYM9` fits in 133 bits. -/
theorem sym9_bits_lt (k : Nat) (hk : k < 2) (r : SymRec) : r.sym9Bits k < 2 ^ 133 := by
  have h0 := r.data.isLt
  have h2 := ek_lt r.ek
  have h3 := bit_lt r.dl
  have h4 := bit_lt r.ins
  unfold SymRec.sym9Bits
  omega

/-- A word of the format with the examined bits of the row is read as the row's operation, whatever its other
bits. -/
theorem examined_ok {n mask value x : Nat} {i : Instr} (hx : x < 2 ^ n) (hm : x &&& mask = value)
    (hi : i.wellFormed = true) : Decoding.examined n mask value x i = .ok i := by
  simp [Decoding.examined, Decoding.keep, Nat.div_eq_of_lt hx, hm, hi]

/-- The format fits below the row tag, and the row tag reads back. -/
def EncodingFits.Statement (i : Instr) : Prop :=
  i.formatBits < 2 ^ 152 ∧ encode i / 2 ^ 152 = i.rowNumber + 1

/-- It is enough that the format fits. -/
theorem encodingFits_of_lt {i : Instr} (h : i.formatBits < 2 ^ 152) : EncodingFits.Statement i := by
  refine ⟨h, ?_⟩
  unfold encode
  omega

theorem EncodingFits.cdcSync (agent : Agent) : EncodingFits.Statement (.cdcSync agent) := by
  apply encodingFits_of_lt
  have h0 := agent_lt agent
  simp only [Instr.formatBits]
  omega

theorem EncodingFits.cdcReq (cmd : BitVec 4) : EncodingFits.Statement (.cdcReq cmd) := by
  apply encodingFits_of_lt
  have h0 := cmd.isLt
  simp only [Instr.formatBits]
  omega

theorem EncodingFits.cdcAck : EncodingFits.Statement (.cdcAck) := by
  apply encodingFits_of_lt
  decide

theorem EncodingFits.rxcmdRealign : EncodingFits.Statement (.rxcmdRealign) := by
  apply encodingFits_of_lt
  decide

theorem EncodingFits.rxcmdFlush : EncodingFits.Statement (.rxcmdFlush) := by
  apply encodingFits_of_lt
  decide

theorem EncodingFits.rxcmdDecreset (codec : Codec) : EncodingFits.Statement (.rxcmdDecreset codec) := by
  apply encodingFits_of_lt
  have h0 := codec_lt codec
  simp only [Instr.formatBits]
  omega

theorem EncodingFits.alReset : EncodingFits.Statement (.alReset) := by
  apply encodingFits_of_lt
  decide

theorem EncodingFits.alStepAcquire (raw : Block) : EncodingFits.Statement (.alStepAcquire raw) := by
  apply encodingFits_of_lt
  have h0 := raw.isLt
  simp only [Instr.formatBits]
  omega

theorem EncodingFits.alStepHit (raw : Block) : EncodingFits.Statement (.alStepHit raw) := by
  apply encodingFits_of_lt
  have h0 := raw.isLt
  simp only [Instr.formatBits]
  omega

theorem EncodingFits.alStepMiss (raw : Block) : EncodingFits.Statement (.alStepMiss raw) := by
  apply encodingFits_of_lt
  have h0 := raw.isLt
  simp only [Instr.formatBits]
  omega

theorem EncodingFits.alStepNone (raw : Block) : EncodingFits.Statement (.alStepNone raw) := by
  apply encodingFits_of_lt
  have h0 := raw.isLt
  simp only [Instr.formatBits]
  omega

theorem EncodingFits.alStepTimeout : EncodingFits.Statement (.alStepTimeout) := by
  apply encodingFits_of_lt
  decide

theorem EncodingFits.dec10Ok (v : Line10) : EncodingFits.Statement (.dec10Ok v) := by
  apply encodingFits_of_lt
  have h0 := v.isLt
  simp only [Instr.formatBits]
  omega

theorem EncodingFits.dec10Disp (v : Line10) : EncodingFits.Statement (.dec10Disp v) := by
  apply encodingFits_of_lt
  have h0 := v.isLt
  simp only [Instr.formatBits]
  omega

theorem EncodingFits.dec10Code (v : Line10) : EncodingFits.Statement (.dec10Code v) := by
  apply encodingFits_of_lt
  have h0 := v.isLt
  simp only [Instr.formatBits]
  omega

theorem EncodingFits.dec10Acq (v : Line10) : EncodingFits.Statement (.dec10Acq v) := by
  apply encodingFits_of_lt
  have h0 := v.isLt
  simp only [Instr.formatBits]
  omega

theorem EncodingFits.decReset : EncodingFits.Statement (.decReset) := by
  apply encodingFits_of_lt
  decide

theorem EncodingFits.decBubble : EncodingFits.Statement (.decBubble) := by
  apply encodingFits_of_lt
  decide

theorem EncodingFits.dec130D (payload : Payload) : EncodingFits.Statement (.dec130D payload) := by
  apply encodingFits_of_lt
  have h0 := payload.isLt
  simp only [Instr.formatBits]
  omega

theorem EncodingFits.dec130Os (payload : Payload) : EncodingFits.Statement (.dec130Os payload) := by
  apply encodingFits_of_lt
  have h0 := payload.isLt
  simp only [Instr.formatBits]
  omega

theorem EncodingFits.dec130Badsync00 (payload : Payload) : EncodingFits.Statement (.dec130Badsync00 payload) := by
  apply encodingFits_of_lt
  have h0 := payload.isLt
  simp only [Instr.formatBits]
  omega

theorem EncodingFits.dec130Badsync11 (payload : Payload) : EncodingFits.Statement (.dec130Badsync11 payload) := by
  apply encodingFits_of_lt
  have h0 := payload.isLt
  simp only [Instr.formatBits]
  omega

theorem EncodingFits.ebFlushw : EncodingFits.Statement (.ebFlushw) := by
  apply encodingFits_of_lt
  decide

theorem EncodingFits.ebDelete (r : SymRec) : EncodingFits.Statement (.ebDelete r) := by
  apply encodingFits_of_lt
  have h0 := symRec_bits_lt r
  simp only [Instr.formatBits]
  omega

theorem EncodingFits.ebOverflow (r : SymRec) : EncodingFits.Statement (.ebOverflow r) := by
  apply encodingFits_of_lt
  have h0 := symRec_bits_lt r
  simp only [Instr.formatBits]
  omega

theorem EncodingFits.ebWrite (r : SymRec) : EncodingFits.Statement (.ebWrite r) := by
  apply encodingFits_of_lt
  have h0 := symRec_bits_lt r
  simp only [Instr.formatBits]
  omega

theorem EncodingFits.ebIdlew : EncodingFits.Statement (.ebIdlew) := by
  apply encodingFits_of_lt
  decide

theorem EncodingFits.ebFlushr : EncodingFits.Statement (.ebFlushr) := by
  apply encodingFits_of_lt
  decide

theorem EncodingFits.ebPrime : EncodingFits.Statement (.ebPrime) := by
  apply encodingFits_of_lt
  decide

theorem EncodingFits.ebStart : EncodingFits.Statement (.ebStart) := by
  apply encodingFits_of_lt
  decide

theorem EncodingFits.ebUnderflow : EncodingFits.Statement (.ebUnderflow) := by
  apply encodingFits_of_lt
  decide

theorem EncodingFits.ebInsert (head : Slot) : EncodingFits.Statement (.ebInsert head) := by
  apply encodingFits_of_lt
  have h0 := slot_bits_lt head
  simp only [Instr.formatBits]
  omega

theorem EncodingFits.ebRead (head : Slot) : EncodingFits.Statement (.ebRead head) := by
  apply encodingFits_of_lt
  have h0 := slot_bits_lt head
  simp only [Instr.formatBits]
  omega

theorem EncodingFits.scrStop (p : ScrInst) : EncodingFits.Statement (.scrStop p) := by
  apply encodingFits_of_lt
  have h0 := inst_lt p
  simp only [Instr.formatBits]
  omega

theorem EncodingFits.scrStart (p : ScrInst) : EncodingFits.Statement (.scrStart p) := by
  apply encodingFits_of_lt
  have h0 := inst_lt p
  simp only [Instr.formatBits]
  omega

theorem EncodingFits.scrBubble (p : ScrInst) : EncodingFits.Statement (.scrBubble p) := by
  apply encodingFits_of_lt
  have h0 := inst_lt p
  simp only [Instr.formatBits]
  omega

theorem EncodingFits.ostStep (p : ScrInst) (r : SymRec) : EncodingFits.Statement (.ostStep p r) := by
  apply encodingFits_of_lt
  have h0 := inst_lt p
  have h1 := symRec_bits_lt r
  simp only [Instr.formatBits]
  omega

theorem EncodingFits.scr8Com (p : ScrInst) (r : SymRec) : EncodingFits.Statement (.scr8Com p r) := by
  apply encodingFits_of_lt
  have h0 := inst_lt p
  have h1 := sym9_bits_lt 1 (by decide) r
  simp only [Instr.formatBits]
  omega

theorem EncodingFits.scr8Skp (p : ScrInst) (r : SymRec) : EncodingFits.Statement (.scr8Skp p r) := by
  apply encodingFits_of_lt
  have h0 := inst_lt p
  have h1 := sym9_bits_lt 1 (by decide) r
  simp only [Instr.formatBits]
  omega

theorem EncodingFits.scr8Ctl (p : ScrInst) (r : SymRec) : EncodingFits.Statement (.scr8Ctl p r) := by
  apply encodingFits_of_lt
  have h0 := inst_lt p
  have h1 := sym9_bits_lt 1 (by decide) r
  simp only [Instr.formatBits]
  omega

theorem EncodingFits.scr8Bypass (p : ScrInst) (r : SymRec) : EncodingFits.Statement (.scr8Bypass p r) := by
  apply encodingFits_of_lt
  have h0 := inst_lt p
  have h1 := sym9_bits_lt 0 (by decide) r
  simp only [Instr.formatBits]
  omega

theorem EncodingFits.scr8Data (p : ScrInst) (r : SymRec) : EncodingFits.Statement (.scr8Data p r) := by
  apply encodingFits_of_lt
  have h0 := inst_lt p
  have h1 := sym9_bits_lt 0 (by decide) r
  simp only [Instr.formatBits]
  omega

theorem EncodingFits.scr8Err (p : ScrInst) (r : SymRec) : EncodingFits.Statement (.scr8Err p r) := by
  apply encodingFits_of_lt
  have h0 := inst_lt p
  have h1 := symRec_bits_lt r
  simp only [Instr.formatBits]
  omega

theorem EncodingFits.scr128Data (p : ScrInst) (r : SymRec) : EncodingFits.Statement (.scr128Data p r) := by
  apply encodingFits_of_lt
  have h0 := inst_lt p
  have h1 := symRec_bits_lt r
  simp only [Instr.formatBits]
  omega

theorem EncodingFits.scr128Eieos (p : ScrInst) (r : SymRec) : EncodingFits.Statement (.scr128Eieos p r) := by
  apply encodingFits_of_lt
  have h0 := inst_lt p
  have h1 := symRec_bits_lt r
  simp only [Instr.formatBits]
  omega

theorem EncodingFits.scr128Skp (p : ScrInst) (r : SymRec) : EncodingFits.Statement (.scr128Skp p r) := by
  apply encodingFits_of_lt
  have h0 := inst_lt p
  have h1 := symRec_bits_lt r
  simp only [Instr.formatBits]
  omega

theorem EncodingFits.scr128Os (p : ScrInst) (r : SymRec) : EncodingFits.Statement (.scr128Os p r) := by
  apply encodingFits_of_lt
  have h0 := inst_lt p
  have h1 := symRec_bits_lt r
  simp only [Instr.formatBits]
  omega

theorem EncodingFits.scr128Err (p : ScrInst) (r : SymRec) : EncodingFits.Statement (.scr128Err p r) := by
  apply encodingFits_of_lt
  have h0 := inst_lt p
  have h1 := symRec_bits_lt r
  simp only [Instr.formatBits]
  omega

theorem EncodingFits.encReset : EncodingFits.Statement (.encReset) := by
  apply encodingFits_of_lt
  decide

theorem EncodingFits.enc10D (b : Byte) : EncodingFits.Statement (.enc10D b) := by
  apply encodingFits_of_lt
  have h0 := b.isLt
  simp only [Instr.formatBits]
  omega

theorem EncodingFits.enc10K (b : Byte) : EncodingFits.Statement (.enc10K b) := by
  apply encodingFits_of_lt
  have h0 := b.isLt
  simp only [Instr.formatBits]
  omega

theorem EncodingFits.enc10Kinv (b : Byte) : EncodingFits.Statement (.enc10Kinv b) := by
  apply encodingFits_of_lt
  have h0 := b.isLt
  simp only [Instr.formatBits]
  omega

theorem EncodingFits.encBubble : EncodingFits.Statement (.encBubble) := by
  apply encodingFits_of_lt
  decide

theorem EncodingFits.enc130D (d : Payload) : EncodingFits.Statement (.enc130D d) := by
  apply encodingFits_of_lt
  have h0 := d.isLt
  simp only [Instr.formatBits]
  omega

theorem EncodingFits.enc130Os (d : Payload) : EncodingFits.Statement (.enc130Os d) := by
  apply encodingFits_of_lt
  have h0 := d.isLt
  simp only [Instr.formatBits]
  omega

theorem EncodingFits.idlDebounce : EncodingFits.Statement (.idlDebounce) := by
  apply encodingFits_of_lt
  decide

theorem EncodingFits.rxdDone : EncodingFits.Statement (.rxdDone) := by
  apply encodingFits_of_lt
  decide

theorem EncodingFits.rxdClear : EncodingFits.Statement (.rxdClear) := by
  apply encodingFits_of_lt
  decide

theorem EncodingFits.rxdStart : EncodingFits.Statement (.rxdStart) := by
  apply encodingFits_of_lt
  decide

theorem EncodingFits.ctlHardreset : EncodingFits.Statement (.ctlHardreset) := by
  apply encodingFits_of_lt
  decide

theorem EncodingFits.ctlTransitionClose : EncodingFits.Statement (.ctlTransitionClose) := by
  apply encodingFits_of_lt
  decide

theorem EncodingFits.ctlTransitionDone : EncodingFits.Statement (.ctlTransitionDone) := by
  apply encodingFits_of_lt
  decide

theorem EncodingFits.ctlResetReq : EncodingFits.Statement (.ctlResetReq) := by
  apply encodingFits_of_lt
  decide

theorem EncodingFits.ctlResetDone : EncodingFits.Statement (.ctlResetDone) := by
  apply encodingFits_of_lt
  decide

theorem EncodingFits.ctlDetectOk : EncodingFits.Statement (.ctlDetectOk) := by
  apply encodingFits_of_lt
  decide

theorem EncodingFits.ctlAlignOk : EncodingFits.Statement (.ctlAlignOk) := by
  apply encodingFits_of_lt
  decide

theorem EncodingFits.ctlConfigureOk : EncodingFits.Statement (.ctlConfigureOk) := by
  apply encodingFits_of_lt
  decide

theorem EncodingFits.ctlPowerdown : EncodingFits.Statement (.ctlPowerdown) := by
  apply encodingFits_of_lt
  decide

theorem EncodingFits.ctlIdleAck : EncodingFits.Statement (.ctlIdleAck) := by
  apply encodingFits_of_lt
  decide

theorem EncodingFits.ctlPowerup : EncodingFits.Statement (.ctlPowerup) := by
  apply encodingFits_of_lt
  decide

theorem EncodingFits.ctlIdleChange : EncodingFits.Statement (.ctlIdleChange) := by
  apply encodingFits_of_lt
  decide

theorem EncodingFits.ctlRate (rate : RateCode) : EncodingFits.Statement (.ctlRate rate) := by
  apply encodingFits_of_lt
  have h0 := rate.isLt
  simp only [Instr.formatBits]
  omega

theorem EncodingFits.ctlFatal (cause : Cause) : EncodingFits.Statement (.ctlFatal cause) := by
  apply encodingFits_of_lt
  have h0 := cause_lt cause
  simp only [Instr.formatBits]
  omega

theorem EncodingFits.ctlTimeout : EncodingFits.Statement (.ctlTimeout) := by
  apply encodingFits_of_lt
  decide

theorem EncodingFits.ctlTick (before : CtlState) : EncodingFits.Statement (.ctlTick before) := by
  apply encodingFits_of_lt
  have h0 := ctlState_lt before
  simp only [Instr.formatBits]
  omega

theorem EncodingFits.ctlMonitor : EncodingFits.Statement (.ctlMonitor) := by
  apply encodingFits_of_lt
  decide

theorem EncodingFits.ctlCodec : EncodingFits.Statement (.ctlCodec) := by
  apply encodingFits_of_lt
  decide

theorem EncodingFits.ctlStay : EncodingFits.Statement (.ctlStay) := by
  apply encodingFits_of_lt
  decide

theorem EncodingFits.paRxmap (valid : Bool) (r : SymRec) : EncodingFits.Statement (.paRxmap valid r) := by
  apply encodingFits_of_lt
  have h0 := bit_lt valid
  have h1 := symRec_bits_lt r
  simp only [Instr.formatBits]
  omega

theorem EncodingFits.paStatus : EncodingFits.Statement (.paStatus) := by
  apply encodingFits_of_lt
  decide

theorem EncodingFits.paTxmap (data : Payload) (datak : Bool) (elecidle : Bool) : EncodingFits.Statement (.paTxmap data datak elecidle) := by
  apply encodingFits_of_lt
  have h0 := data.isLt
  have h1 := bit_lt datak
  have h2 := bit_lt elecidle
  simp only [Instr.formatBits]
  omega

theorem EncodingFits.paCmdmap (pins : BitVec 7) : EncodingFits.Statement (.paCmdmap pins) := by
  apply encodingFits_of_lt
  have h0 := pins.isLt
  simp only [Instr.formatBits]
  omega

end Sys2Proof.Laws
end

