-- ==== Sys2Proof/Tests/Slice0.lean ====
section
/-! SUPPORT. Named tests: ill-formed operations are refused, words written out from the formats decode, each
operation does what a reference vector of `spec/95_test_vectors.md` says (named V<n>.<m> in its comment), and
the hypotheses of every statement are met by some concrete state. -/

namespace Sys2Proof.Tests

open Sys2Proof.Machine

set_option Elab.async false

-- Helpers

/-- What `f` reads after one operation; none where the operation does not answer. -/
def after {α : Type} (i : Instr) (s : State) (f : State → α) : Option α :=
  match exec i s with
  | .next t => some (f t)
  | .fault _ => none
  | .refused _ => none

/-- What `f` reads after an outcome. -/
def seen {α : Type} (o : Host.Outcome State Fault Refusal) (f : State → α) : Option α :=
  match o with
  | .next t => some (f t)
  | .fault _ => none
  | .refused _ => none

/-- A record with the given byte. -/
def sym (t : Tag) (b : Nat) : SymRec :=
  { data := BitVec.ofNat 128 b, tag := t, ek := if t = .error then .code else .none, dl := false, ins := false }

/-- The machine after power-up. -/
def s0 : State := State.reset
/-- In a controller state. -/
def inState (q : CtlState) : State := s0.setCtl { s0.ctl with state := q, rxCfgDone := true }
/-- ACTIVE, with everything running. -/
def active : State :=
  (((inState .active).setScr { s0.scr with run := true }).setDsc { s0.dsc with run := true }).setEbr
    { s0.ebr with rdState := .running }
/-- A filler of codec `C8B10B`. -/
def skp : SymRec := sym .control 0x1C
/-- A buffer write side with these pointers, and a valid record at the decoder. -/
def writing (wptr rgray : Nat) (r : SymRec) : State :=
  (s0.setEbw { s0.ebw with wptr := wptr, rgrayW2 := rgray }).setDec { s0.dec with out := r, outValid := true }
/-- A running buffer read side with these pointers and this head. -/
def reading (rptr wgray : Nat) (h : Slot) : State :=
  ((s0.setEbr { s0.ebr with rptr := rptr, rdState := .running }).setSync
    { s0.sync with wgrayC2 := wgray }).setMem [(rptr % 16, h)]
/-- The hold is on, with this command word. -/
def held (cmd : BitVec 4) : State :=
  (s0.setCdcRx { s0.cdcRx with reqR2 := true }).setCdc { req := true, cmd := cmd }
/-- The aligner with this hypothesis. -/
def aligned (prev offset conf since : Nat) (locked : Bool) : State :=
  s0.setAl { s0.al with prev := BitVec.ofNat 130 prev, offset := offset, conf := conf, since := since,
                        locked := locked, outValid := locked }
/-- The decoder with this disparity, and a ten-bit word delivered by the aligner. -/
def heard (rd : Rd) (known : Bool) (v : Nat) : State :=
  (s0.setDec { s0.dec with rd := rd, rdKnown := known }).setAl
    { s0.al with outSym := BitVec.ofNat 130 v, outValid := true }
/-- A scrambler instance at this LFSR and tracker. -/
def scrAt (lfsr : Nat) (aft : Bool) (cnt : Nat) : State :=
  s0.setScr { s0.scr with lfsr := BitVec.ofNat 23 lfsr, run := true, aft := aft, cnt := cnt }
/-- Under MAC pins that ask for nothing, and no hard reset. -/
def quiet (s : State) : State := s.setInp { s.inp with mac := s.quietPins }
/-- An outcome that answers a state with the property. -/
def holds (o : Host.Outcome State Fault Refusal) (f : State → Bool) : Bool := seen o f == some true

/-- What `holds` says, in the form of a statement's hypothesis. -/
theorem holds_next {o : Host.Outcome State Fault Refusal} {f : State → Bool} (h : holds o f = true) :
    ∃ t, o = .next t ∧ f t = true := by
  cases o <;> simp_all [holds, seen]
/-- What a scrambler operation leaves: the data, the LFSR, and whether a symbol is there. -/
def scrView (s : State) : Nat × Nat × Bool := (s.scr.out.data.toNat, s.scr.lfsr.toNat, s.scr.outValid)

-- WellFormed: for each check, terms it refuses

theorem test_illformed_decoder :
    [Instr.dec10Ok 0x3FF, .dec10Disp 0x2AA, .dec10Disp 0x3FF, .dec10Code 0x2AA, .dec10Code 0x17C].all
      (fun i => !i.wellFormed) = true := by decide +kernel

theorem test_illformed_buffer :
    [Instr.ebDelete (sym .data 0x1C), .ebDelete { skp with dl := true, ins := true },
     .ebOverflow { skp with ek := .code }, .ebWrite { sym .error 0 with ek := .none },
     .ebWrite { sym .data 0 with dl := true, ins := true },
     .ebInsert { data := 0x1C, tag := .data, ek := .none, dl := false },
     .ebInsert { data := 0x1C, tag := .control, ek := .disp, dl := false },
     .ebRead { data := 0, tag := .error, ek := .none, dl := false }].all
      (fun i => !i.wellFormed) = true := by decide

theorem test_illformed_scrambler :
    [Instr.ostStep .scr (sym .error 0), .ostStep .scr { sym .data 0 with dl := true },
     .ostStep .dsc { sym .data 0 with ek := .code }, .scr8Com .scr (sym .control 0x1C),
     .scr8Com .dsc (sym .data 0xBC), .scr8Skp .scr (sym .control 0xBC), .scr8Ctl .scr (sym .control 0xBC),
     .scr8Ctl .scr (sym .control 0x1C), .scr8Ctl .scr (sym .data 0xFB), .scr8Bypass .scr (sym .control 0),
     .scr8Data .scr (sym .control 0), .scr8Err .dsc (sym .data 0), .scr8Err .scr (sym .error 0),
     .scr128Data .scr (sym .control 0), .scr128Eieos .scr (sym .control 0), .scr128Skp .scr (sym .control 0xAB),
     .scr128Os .scr (sym .control 0xAA), .scr128Os .scr (SymRec.good true eieosPay),
     .scr128Err .dsc (sym .control 0)].all (fun i => !i.wellFormed) = true := by decide

theorem test_illformed_rest :
    [Instr.enc10K 0x00, .enc10Kinv 0xBC, .ctlFatal .none, .ctlFatal .codecDecodeError, .ctlFatal .commandTimeout,
     .paRxmap true { sym .data 0 with ek := .code }].all (fun i => !i.wellFormed) = true := by decide

-- Decode: words written out from each row's format (R90 to R118); 2 ^ 152 * (row) is the row tag

theorem test_decode_bridge :
    [(1, 0), (1, 1), (2, 0b0111), (2, 0b1010), (3, 0), (4, 0b0001), (5, 0b0010), (6, 0b0100), (6, 0b1100)].map
      (fun e => decodeTableWord 160 (2 ^ 152 * e.1 + e.2)) =
    [some (.cdcSync .rx), some (.cdcSync .core), some (.cdcReq 7), some (.cdcReq 10), some .cdcAck,
     some .rxcmdRealign, some .rxcmdFlush, some (.rxcmdDecreset .c8b10b),
     some (.rxcmdDecreset .c128b130b)] := by decide +kernel

theorem test_decode_aligner :
    [(7, 0), (8, 0x152), (9, 2 ^ 129 + 1), (10, 0x395), (11, 0x155), (12, 0)].map
      (fun e => decodeTableWord 160 (2 ^ 152 * e.1 + e.2)) =
    [some .alReset, some (.alStepAcquire 0x152), some (.alStepHit (BitVec.ofNat 130 (2 ^ 129 + 1))),
     some (.alStepMiss 0x395), some (.alStepNone 0x155), some .alStepTimeout] := by decide +kernel

/-- K28.5 from RD- is `001111 1010` on the wire, letter `a` in bit 0: `0x17C`. -/
theorem test_decode_decoder :
    [(13, 0b0101111100), (14, 0b1010000011), (15, 0b1111111111), (16, 0b0101111100), (17, 0), (18, 0),
     (19, 4 * 0x5A + 0b10), (20, 4 * 0x5A + 0b01), (21, 4 * 0x5A + 0b00), (22, 4 * 0x5A + 0b11)].map
      (fun e => decodeTableWord 160 (2 ^ 152 * e.1 + e.2)) =
    [some (.dec10Ok 0x17C), some (.dec10Disp 0x283), some (.dec10Code 0x3FF), some (.dec10Acq 0x17C),
     some .decReset, some .decBubble, some (.dec130D 0x5A), some (.dec130Os 0x5A), some (.dec130Badsync00 0x5A),
     some (.dec130Badsync11 0x5A)] := by decide +kernel

/-- `SYMREC`: data 127:0, tag 129:128, error kind 131:130, `dl` 132, `ins` 133; `SLOT` stops at `dl`. -/
theorem test_decode_buffer :
    [(23, 0), (24, 0x1C + 2 ^ 128), (25, 0xA7 + 2 ^ 129 + 2 ^ 131), (26, 0x4A + 2 ^ 132), (27, 0), (28, 0), (29, 0),
     (30, 0), (31, 0), (32, 0x1C + 2 ^ 128), (33, 0x55 + 2 ^ 132)].map
      (fun e => decodeTableWord 160 (2 ^ 152 * e.1 + e.2)) =
    [some .ebFlushw, some (.ebDelete skp), some (.ebOverflow { sym .error 0xA7 with ek := .disp }),
     some (.ebWrite { sym .data 0x4A with dl := true }), some .ebIdlew, some .ebFlushr, some .ebPrime,
     some .ebStart, some .ebUnderflow,
     some (.ebInsert { data := 0x1C, tag := .control, ek := .none, dl := false }),
     some (.ebRead { data := 0x55, tag := .data, ek := .none, dl := true })] := by decide +kernel

/-- `SYM9`: the byte in bits 7:0 and `k` in bit 8; the instance bit stands above the record. -/
theorem test_decode_scrambler8 :
    [(34, 0), (35, 1), (36, 1), (37, 0x4A + 2 ^ 134), (38, 0b110111100), (39, 0b100011100 + 2 ^ 133),
     (40, 0b111111011), (41, 0b001001010), (42, 0b001001010 + 2 ^ 133), (43, 2 ^ 129 + 2 ^ 130 + 2 ^ 134)].map
      (fun e => decodeTableWord 160 (2 ^ 152 * e.1 + e.2)) =
    [some (.scrStop .scr), some (.scrStart .dsc), some (.scrBubble .dsc), some (.ostStep .dsc (sym .data 0x4A)),
     some (.scr8Com .scr (sym .control 0xBC)), some (.scr8Skp .dsc skp), some (.scr8Ctl .scr (sym .control 0xFB)),
     some (.scr8Bypass .scr (sym .data 0x4A)), some (.scr8Data .dsc (sym .data 0x4A)),
     some (.scr8Err .dsc (sym .error 0))] := by decide +kernel

theorem test_decode_scrambler128 :
    [(44, 0x33), (45, 0xFF00FF00FF00FF00FF00FF00FF00FF00 + 2 ^ 128), (46, 0xAA + 2 ^ 128),
     (47, 0x1E + 2 ^ 128 + 2 ^ 134), (48, 2 ^ 129 + 2 ^ 130 + 2 ^ 134)].map
      (fun e => decodeTableWord 160 (2 ^ 152 * e.1 + e.2)) =
    [some (.scr128Data .scr (sym .data 0x33)), some (.scr128Eieos .scr (SymRec.good true eieosPay)),
     some (.scr128Skp .scr (sym .control 0xAA)), some (.scr128Os .dsc (sym .control 0x1E)),
     some (.scr128Err .dsc (sym .error 0))] := by decide +kernel

theorem test_decode_encoder :
    [(49, 0), (50, 0b001001010), (51, 0b110111100), (52, 0b100000000), (53, 0), (54, 0x5A), (55, 2 ^ 127)].map
      (fun e => decodeTableWord 160 (2 ^ 152 * e.1 + e.2)) =
    [some .encReset, some (.enc10D 0x4A), some (.enc10K 0xBC), some (.enc10Kinv 0x00), some .encBubble,
     some (.enc130D 0x5A), some (.enc130Os (BitVec.ofNat 128 (2 ^ 127)))] := by decide +kernel

/-- `PIPECMD`: reset_n 6, rate 5:4, powerdown 3:2, elecidle 1, detectrx 0. -/
theorem test_decode_controller :
    [(56, 0), (57, 0), (58, 0), (59, 0b1000011), (60, 0), (61, 0b110), (62, 0b110), (63, 0b000), (64, 0b000),
     (65, 0b001), (66, 0b010), (67, 0b011), (68, 0b100), (69, 0b101), (70, 0b101), (71, 0b101), (72, 0b1100000),
     (73, 0b100), (74, 0b110), (75, 0b101), (76, 0), (77, 0), (78, 0)].map
      (fun e => decodeTableWord 160 (2 ^ 152 * e.1 + e.2)) =
    [some .idlDebounce, some .rxdDone, some .rxdClear, some .rxdStart, some .ctlHardreset,
     some .ctlTransitionClose, some .ctlTransitionDone, some .ctlResetReq, some .ctlResetDone, some .ctlDetectOk,
     some .ctlAlignOk, some .ctlConfigureOk, some .ctlPowerdown, some .ctlIdleAck, some .ctlPowerup,
     some .ctlIdleChange, some (.ctlRate 2), some (.ctlFatal .bufferUnderflow), some .ctlTimeout,
     some (.ctlTick .idle), some .ctlMonitor, some .ctlCodec, some .ctlStay] := by decide +kernel

theorem test_decode_adapter :
    [(79, 0xBC + 2 ^ 128 + 2 ^ 134), (80, 0), (81, 0x12BC + 2 ^ 128), (82, 0b1100111)].map
      (fun e => decodeTableWord 160 (2 ^ 152 * e.1 + e.2)) =
    [some (.paRxmap true (sym .control 0xBC)), some .paStatus, some (.paTxmap 0x12BC true false),
     some (.paCmdmap 0b1100111)] := by decide +kernel

/-- Reserved codes, stray bits, wrong patterns and unknown rows are refused by name (R115). -/
theorem test_decode_refuses :
    [2 ^ 152 * 26 + 3 * 2 ^ 128, 2 ^ 152 * 26 + 3 * 2 ^ 130, 2 ^ 152 * 75 + 7, 2 ^ 152 * 73 + 7, 2 ^ 152 * 2 + 16,
     2 ^ 152 * 38 + 0b010111100, 2 ^ 152 * 51 + 0b100000000, 2 ^ 152 * 83].map
      (fun w => decode (toBytes 20 w)) =
    [.error .reservedCode, .error .reservedCode, .error .reservedCode, .error .reservedCode, .error .strayBits,
     .error .wrongPattern, .error .illFormed, .error .unknownRow] := by decide +kernel

/-- Bits that the table's mask does not examine are not read (R102, R118): other command bits set beside the
one that selects, and pins that a command ignores. -/
theorem test_decode_unexamined :
    [(4, 0b0111), (4, 0b1001), (5, 0b1111), (6, 0b0111), (6, 0b1111), (58, 0b1111110), (59, 0b1111111), (60, 0b0111111),
     (60, 0b0000011), (72, 0b1101111)].map (fun e => decodeTableWord 160 (2 ^ 152 * e.1 + e.2)) =
    [some .rxcmdRealign, some .rxcmdRealign, some .rxcmdFlush, some (.rxcmdDecreset .c8b10b),
     some (.rxcmdDecreset .c128b130b), some .rxdClear, some .rxdStart, some .ctlHardreset, some .ctlHardreset,
     some (.ctlRate 2)] := by decide +kernel

/-- An examined bit that is not as the match has it, and a bit above the format, are refused. -/
theorem test_decode_examined_refuses :
    [2 ^ 152 * 4 + 0b1110, 2 ^ 152 * 59 + 0b0111111, 2 ^ 152 * 60 + 0b1000000, 2 ^ 152 * 72 + 0b0100000,
     2 ^ 152 * 4 + 0b10001, 2 ^ 152 * 60 + 0b10000000].map (fun w => decode (toBytes 20 w)) =
    [.error .wrongPattern, .error .wrongPattern, .error .wrongPattern, .error .wrongPattern, .error .strayBits,
     .error .strayBits] := by decide +kernel

/-- Bare patterns of the table select the first row that has them; the block rows take the tag CONTROL. -/
theorem test_decode_bare :
    decodeTableWord 16 0x1BC = some (.scr8Com .scr (sym .control 0xBC)) ∧
    decodeTableWord 8 0x43 = some .rxdStart ∧ decodeTableWord 8 0x4B = some .rxdStart ∧
    decodeTableWord 136 (4 * 0x5A + 0b10) = some (.dec130D 0x5A) ∧
    decodeTableWord 128 0xFF00FF00FF00FF00FF00FF00FF00FF00 = some (.scr128Eieos .scr (SymRec.good true eieosPay)) ∧
    decodeTableWord 128 0xAAAA = some (.scr128Skp .scr (sym .control 0xAAAA)) ∧
    decodeTableWord 8 0xAA = some (.scr128Skp .scr (sym .control 0xAA)) := by
  decide +kernel

/-- The codes of R107 and R108. -/
theorem test_codes :
    ([RdState.held, .priming, .running].map RdState.num, [Rd.minus, .plus].map Rd.num,
     [Codec.c8b10b, .c128b130b].map Codec.num) = ([0, 1, 2], [0, 1], [0, 1]) := by decide

-- The aligner

/-- V1.1, step 2: the marker of words 1 and 2 starts at bit 3. -/
theorem test_acquire : after (.alStepAcquire 0x152) (aligned 0x3E0 0 0 0 false)
    (fun t => (t.al.offset, t.al.conf, t.al.outSym, t.al.outValid)) = some (3, 1, 0x17C, false) := by decide +kernel
/-- V1.1, step 11: LOCKED rises at the fourth hit and delivers the symbol. -/
theorem test_hit : after (.alStepHit 0x155) (aligned 0x01D 3 3 2 false)
    (fun t => (t.al.conf, t.al.locked, t.al.since, t.al.outValid)) = some (4, true, 0, true) := by decide +kernel
/-- V1.2, step 17: the miss keeps the lock at confidence 1. -/
theorem test_miss_keeps : after (.alStepMiss 0x14B) (aligned 0x380 3 2 18 true)
    (fun t => (t.al.conf, t.al.locked, t.al.since, t.al.offset)) = some (1, true, 19, 3) := by decide +kernel
/-- V1.2, step 20: the miss at confidence 1 drops it. -/
theorem test_miss_drops : after (.alStepMiss 0x14B) (aligned 0x380 3 1 21 true)
    (fun t => (t.al.conf, t.al.locked, t.al.since, t.al.outValid)) = some (0, false, 22, false) := by decide +kernel
/-- V1.1, step 3. -/
theorem test_none : after (.alStepNone 0x155) (aligned 0x152 3 1 0 false)
    (fun t => (t.al.conf, t.al.since, t.al.outSym)) = some (1, 1, 0x2AA) := by decide +kernel
/-- V1.3, step 3. -/
theorem test_timeout : after .alStepTimeout (aligned 0x155 3 5 4096 true)
    (fun t => (t.al.offset, t.al.conf, t.al.locked, t.al.since, t.al.outValid)) =
      some (3, 0, false, 0, false) := by decide +kernel
/-- V1.4. -/
theorem test_al_reset : after .alReset ((aligned 0 3 7 0 true).setInp { s0.inp with rxWord := 0x155 })
    (fun t => t.al) = some { Aligner.init with prev := 0x155 } := by decide +kernel

-- The bridge

/-- V4.2: `0b1111` loads codec 1. -/
theorem test_decreset : after (.rxcmdDecreset .c128b130b) (heard .plus true 0)
    (fun t => (t.rcfgCodec, t.dec.rd, t.dec.rdKnown)) = some (.c128b130b, .minus, false) := by decide +kernel
/-- V1.4. -/
theorem test_realign : after .rxcmdRealign (aligned 0 3 7 0 true) (fun t => t.al) = some Aligner.init := by
  decide +kernel
/-- V5.8. -/
theorem test_flush : after .rxcmdFlush ((writing 23 0 skp).setEbw { s0.ebw with wptr := 23, ovf := true })
    (fun t => (t.ebw.wptr, t.ebw.ovf)) = some (0, false) := by decide +kernel
/-- V4.1, steps x6 and x7. -/
theorem test_sync_rx : after (.cdcSync .rx) ((held 7).setCdcRx { reqR1 := true, reqR2 := false, ack := false })
    (fun t => (t.cdcRx.reqR1, t.cdcRx.reqR2)) = some (true, true) := by decide +kernel
/-- V4.1, step c8. -/
theorem test_sync_core : after (.cdcSync .core) (s0.setCdcRx { s0.cdcRx with ack := true })
    (fun t => (t.sync.ackC1, t.sync.ackC2)) = some (true, false) := by decide +kernel
/-- V4.1, step x8. -/
theorem test_ack : after .cdcAck (held 7) (fun t => t.cdcRx.ack) = some true := by decide +kernel
/-- V4.1, step c5. -/
theorem test_req : after (.cdcReq 7) s0 (fun t => t.cdc) = some { req := true, cmd := 0b0111 } := by decide +kernel

-- The codecs

/-- V2.4. -/
theorem test_dec_ok : after (.dec10Ok 0x17C) (heard .minus true 0x17C) (fun t => (t.dec.out, t.dec.rd)) =
    some (sym .control 0xBC, .plus) := by decide +kernel
/-- V2.4: D30.4 of the RD+ column. -/
theorem test_dec_disp : after (.dec10Disp 0x2E1) (heard .minus true 0x2E1) (fun t => (t.dec.out, t.dec.rd)) =
    some ({ sym .error 0x9E with ek := .disp }, .plus) := by decide +kernel
/-- V2.4: a balanced word in neither column. -/
theorem test_dec_code : after (.dec10Code 0x01F) (heard .minus true 0x01F) (fun t => (t.dec.out, t.dec.rd)) =
    some (sym .error 0, .minus) := by decide +kernel
/-- V2.5. -/
theorem test_acq_fixes : after (.dec10Acq 0x346) (heard .minus false 0x346)
    (fun t => (t.dec.out, t.dec.rd, t.dec.rdKnown)) = some (sym .data 0, .plus, true) := by decide +kernel
/-- V2.5. -/
theorem test_acq_keeps : after (.dec10Acq 0x2AA) (heard .minus false 0x2AA)
    (fun t => (t.dec.out, t.dec.rdKnown)) = some (sym .data 0x4A, false) := by decide +kernel
/-- V2.7. -/
theorem test_dec_reset : after .decReset (held 0b1111) (fun t => (t.rcfgCodec, t.dec.outValid)) =
    some (.c128b130b, false) := by decide +kernel
/-- V2.7. -/
theorem test_dec_bubble : after .decBubble (heard .plus true 0) (fun t => (t.dec.rd, t.dec.rdKnown, t.dec.outValid)) =
    some (.plus, true, false) := by decide +kernel
/-- V3.4 to V3.6: the headers as the dispatch reads them. -/
theorem test_dec130 :
    [selectDec130 0x2, selectDec130 0x3FC03FC03FC03FC03FC03FC03FC03FC01, selectDec130 0x4, selectDec130 0x7] =
      [.dec130D 0, .dec130Os eieosPay, .dec130Badsync00 1, .dec130Badsync11 1] := by decide +kernel
/-- V3.4 to V3.6. -/
theorem test_dec130_records :
    [after (.dec130D 0) s0 (fun t => t.dec.out), after (.dec130Os eieosPay) s0 (fun t => t.dec.out),
     after (.dec130Badsync00 1) s0 (fun t => t.dec.out), after (.dec130Badsync11 1) s0 (fun t => t.dec.out)] =
    [some (sym .data 0), some (SymRec.good true eieosPay), some (sym .error 0), some (sym .error 0)] := by
  decide +kernel
/-- V2.1, at RD- and RD+: data symbols, both special `x.7` rows among them. -/
theorem test_enc10_data :
    [Code10.enc10 false 0x00 .minus, Code10.enc10 false 0x03 .minus, Code10.enc10 false 0x67 .plus,
     Code10.enc10 false 0xF1 .minus, Code10.enc10 false 0xEB .plus, Code10.enc10 false 0xF7 .plus,
     Code10.enc10 false 0xBC .plus] =
    [(0x0B9, .minus), (0x363, .plus), (0x338, .plus), (0x3B1, .plus), (0x04B, .minus), (0x1E8, .plus),
     (0x15C, .plus)] := by decide +kernel
/-- V2.1: control symbols. -/
theorem test_enc10_control :
    [Code10.enc10 true 0xBC .minus, Code10.enc10 true 0xBC .plus, Code10.enc10 true 0x1C .plus,
     Code10.enc10 true 0xFC .minus, Code10.enc10 true 0xF7 .plus, Code10.enc10 true 0xFE .minus] =
    [(0x17C, .plus), (0x283, .minus), (0x343, .plus), (0x07C, .minus), (0x3A8, .plus), (0x05E, .minus)] := by
  decide +kernel
/-- V2.3. -/
theorem test_enc_d : after (.enc10D 0xF1) s0 (fun t => (t.enc.outWord, t.enc.rd)) = some (0x3B1, .plus) := by
  decide +kernel
/-- V2.3. -/
theorem test_enc_k : after (.enc10K 0xBC) s0 (fun t => (t.enc.outWord, t.enc.rd, t.enc.kerr)) =
    some (0x17C, .plus, false) := by decide +kernel
/-- V2.2. -/
theorem test_enc_kinv : after (.enc10Kinv 0x4A) s0 (fun t => (t.enc.outWord, t.enc.rd, t.enc.kerr)) =
    some (0x05E, .minus, true) := by decide +kernel
/-- R161. -/
theorem test_enc_reset : after .encReset (s0.setEnc { s0.enc with rd := .plus, outValid := true })
    (fun t => (t.enc.rd, t.enc.outValid)) = some (.minus, false) := by decide +kernel
/-- R162: the disparity is kept. -/
theorem test_enc_bubble : after .encBubble (s0.setEnc { s0.enc with rd := .plus, outValid := true })
    (fun t => (t.enc.rd, t.enc.outValid)) = some (.plus, false) := by decide +kernel
/-- V3.1. -/
theorem test_enc130_d : after (.enc130D 0x0F0E0D0C0B0A09080706050403020100) s0 (fun t => t.enc.outWord) =
    some 0x03C3834302C2824201C1814100C080402 := by decide +kernel
/-- V3.3. -/
theorem test_enc130_os : after (.enc130Os 0xAAAAAAAAAAAAAAAAAAAAAAAAAAAAAAAA) s0 (fun t => t.enc.outWord) =
    some 0x2AAAAAAAAAAAAAAAAAAAAAAAAAAAAAAA9 := by decide +kernel
/-- V2.6: the census of one column, as the bits of one number. -/
theorem test_census_minus : Code10.popcount 1024
    (Code10.symbols.foldl (fun n kb => n ||| 2 ^ (Code10.enc10 kb.1 kb.2 .minus).1.toNat) 0) = 268 := by
  decide +kernel

-- The elastic buffer

/-- V4.3. -/
theorem test_gray : ([0, 1, 2, 3, 4, 5, 6, 7, 8, 15, 16, 25, 31].map gray,
    [0x15, 0x10].map (ungray 5)) =
    ([0x00, 0x01, 0x03, 0x02, 0x06, 0x07, 0x05, 0x04, 0x0C, 0x08, 0x18, 0x15, 0x10], [25, 31]) := by
  decide +kernel
/-- V5.1, V5.4. -/
theorem test_write : after (.ebWrite (sym .data 0)) ((writing 14 3 skp).setEbw { s0.ebw with wptr := 14, delPending := true })
    (fun t => (t.readSlot 14, t.ebw.wptr, t.ebw.delPending)) =
      some ({ data := 0, tag := .data, ek := .none, dl := true }, 15, false) := by decide +kernel
/-- The pointer wraps modulo 32 and the slot index modulo 16 (R217, R199). -/
theorem test_write_wraps : after (.ebWrite (sym .data 0x4A)) (writing 31 0 skp)
    (fun t => ((t.readSlot 15).data, t.ebw.wptr)) = some (0x4A, 0) := by decide +kernel
/-- V5.2, V5.5a, V5.5b, V5.6, V5.7, V5.10, V5.9: the dispatch. -/
theorem test_select_write :
    [selectWrite (writing 14 3 skp), selectWrite (writing 15 0 skp), selectWrite (writing 16 0 skp),
     selectWrite (writing 13 0 skp), selectWrite (writing 11 0 skp), selectWrite (writing 2 0x15 (sym .error 0xA7)),
     selectWrite s0] =
    [.ebDelete skp, .ebWrite skp, .ebOverflow skp, .ebDelete skp, .ebWrite skp, .ebWrite (sym .error 0xA7),
     .ebIdlew] := by decide +kernel
/-- V5.2. -/
theorem test_delete : after (.ebDelete skp) (writing 14 3 skp) (fun t => (t.ebw.delPending, t.ebw.wptr, t.mem)) =
    some (true, 14, []) := by decide +kernel
/-- V5.5b. -/
theorem test_overflow : after (.ebOverflow skp) (writing 16 0 skp) (fun t => (t.ebw.ovf, t.ebw.wptr, t.mem)) =
    some (true, 16, []) := by decide +kernel
/-- V5.8. -/
theorem test_flushw : after .ebFlushw (s0.setEbw { s0.ebw with wptr := 23, ovf := true, delPending := true })
    (fun t => (t.ebw.wptr, t.ebw.ovf, t.ebw.delPending)) = some (0, false, false) := by decide +kernel
/-- V5.9. -/
theorem test_idlew : after .ebIdlew (writing 3 0 skp) id = some (writing 3 0 skp) := by decide +kernel
/-- V5.11, V5.12. -/
theorem test_prime :
    (after .ebPrime (s0.setSync { s0.sync with ackC2 := true }) (fun t => t.ebr.rdState),
     after .ebPrime s0 (fun t => t.ebr.rdState)) = (some .held, some .priming) := by decide +kernel
/-- V5.13, V5.14. -/
theorem test_start :
    (after .ebStart ((s0.setEbr { s0.ebr with rdState := .priming }).setSync { s0.sync with wgrayC2 := 7 })
       (fun t => t.ebr.rdState),
     after .ebStart ((s0.setEbr { s0.ebr with rdState := .priming }).setSync { s0.sync with wgrayC2 := 5 })
       (fun t => t.ebr.rdState)) = (some .priming, some .running) := by decide +kernel
/-- V5.15, V5.16, V5.17, V5.18, V5.19: the dispatch. -/
theorem test_select_read :
    [selectRead (reading 3 0x0F (Slot.ofRec (sym .control 0xBC) false)), selectRead (reading 3 5 (Slot.ofRec skp false)),
     selectRead (reading 3 0x0C (Slot.ofRec skp false)), selectRead (reading 3 5 (Slot.ofRec (sym .data 0x4A) false)),
     selectRead (reading 7 4 (Slot.ofRec skp false))] =
    [.ebRead (Slot.ofRec (sym .control 0xBC) false), .ebInsert (Slot.ofRec skp false),
     .ebRead (Slot.ofRec skp false), .ebRead (Slot.ofRec (sym .data 0x4A) false), .ebUnderflow] := by
  decide +kernel
/-- V5.21. -/
theorem test_read : after (.ebRead (Slot.ofRec (sym .data 0) true)) (reading 4 0 (Slot.ofRec (sym .data 0) true))
    (fun t => (t.ebr.out, t.ebr.rptr)) = some ({ sym .data 0 with dl := true }, 5) := by decide +kernel
/-- V5.16. -/
theorem test_insert : after (.ebInsert (Slot.ofRec skp true)) (reading 3 5 (Slot.ofRec skp true))
    (fun t => (t.ebr.out, t.ebr.rptr)) = some ({ skp with ins := true }, 3) := by decide +kernel
/-- V5.19. -/
theorem test_underflow : after .ebUnderflow (reading 7 4 (Slot.ofRec skp false))
    (fun t => (t.ebr.unf, t.ebr.outValid, t.ebr.rptr)) = some (true, false, 7) := by decide +kernel
/-- V5.20. -/
theorem test_flushr : after .ebFlushr (reading 9 0 (Slot.ofRec skp false))
    (fun t => (t.ebr.rptr, t.ebr.rdState, t.ebr.unf)) = some (0, .held, false) := by decide +kernel
/-- The canonical form: a blank slot is not listed. -/
theorem test_memory_canonical :
    ((Memory.write [(2, Slot.ofRec skp false)] 1 (Slot.ofRec skp true)).wf,
     Memory.write [(2, Slot.ofRec skp false)] 2 Slot.blank, State.reset.mem.wf) = (true, [], true) := by decide +kernel

-- The scrambler

/-- V7.1. -/
theorem test_lfsr :
    (lfsrStep Params.default.scr8 0xFFFF, lfsrStep Params.default.scr8 0x7FFF,
     lfsrStep Params.default.scr128 0x1DBFBC, keystream Params.default.scr8 8 0xFFFF) =
    ((0xFFC7, true), (0xFFFE, false), (0x3B7F78, false), (0xE817, 0xFF)) := by decide +kernel
/-- V7.2, symbols 7 and 28. -/
theorem test_scr8_data :
    (after (.scr8Data .scr (sym .data 0x4A)) (scrAt 0x0328 false 0) scrView,
     after (.scr8Data .scr (sym .data 0x4A)) (scrAt 0xB165 false 0) scrView) =
    (some (0x8A, 0x284B, true), some (0xC7, 0x7D09, true)) := by decide +kernel
/-- V7.2, symbols 1, 2, 8 and 15. -/
theorem test_scr8_control :
    [after (.scr8Com .scr (sym .control 0xBC)) (scrAt 0x1234 false 0) scrView,
     after (.scr8Skp .scr skp) (scrAt 0x1234 false 0) scrView,
     after (.scr8Ctl .scr (sym .control 0xFB)) (scrAt 0x284B false 0) scrView,
     after (.scr8Bypass .scr (sym .data 0x00)) (scrAt 0x0328 false 13) scrView] =
    [some (0xBC, 0xFFFF, true), some (0x1C, 0x1234, true), some (0xFB, 0x4DE8, true),
     some (0, 0x284B, true)] := by decide +kernel
/-- R260: an ERROR record passes and the generator advances. -/
theorem test_scr8_err : after (.scr8Err .dsc (sym .error 0x77)) s0
    (fun t => (t.dsc.out, t.dsc.lfsr)) = some (sym .error 0x77, 0xE817) := by decide +kernel
/-- V7.2, symbols 1, 13, 14, 27 and 31: the tracker. -/
theorem test_tracker :
    [track false 0 (sym .control 0xBC), track true 0 (sym .control 0xF7), track false 14 (sym .control 0xF7),
     track false 1 (sym .data 0x4A), track true 0 (sym .control 0x7C), track false 0 (sym .data 0)] =
    [(false, true, 0), (true, false, 14), (true, false, 13), (true, false, 0), (false, false, 0),
     (false, false, 0)] := by decide +kernel
/-- V7.2, symbol 13. -/
theorem test_ost_step : after (.ostStep .scr (sym .control 0xF7)) (scrAt 0xFFFF true 0)
    (fun t => (t.scr.aft, t.scr.cnt)) = some (false, 14) := by decide +kernel
/-- V7.4, block 3. -/
theorem test_scr128_data : after (.scr128Data .scr (SymRec.good false 0x0F0E0D0C0B0A09080706050403020100))
    (scrAt 0x425060 false 0) scrView = some (0x7C4C64425CC6180DACB2B5A705C42775, 0x4BDE36, true) := by
  decide +kernel
/-- V7.4, blocks 10, 4 and 6. -/
theorem test_scr128_control :
    [after (.scr128Eieos .scr (SymRec.good true eieosPay)) (scrAt 0x7046E6 false 0) (fun t => t.scr.lfsr),
     after (.scr128Skp .scr (sym .control 0xAA)) (scrAt 0x4BDE36 false 0) (fun t => t.scr.lfsr),
     after (.scr128Os .scr (sym .control 0x1E)) (scrAt 0x41F947 false 0) (fun t => t.scr.lfsr)] =
    [some 0x1DBFBC, some 0x4BDE36, some 0x6C0524] := by decide +kernel
/-- V7.4, block 8. -/
theorem test_scr128_err : after (.scr128Err .dsc (sym .error 0)) (s0.setDsc { s0.dsc with lfsr := 0x3F78A4 })
    (fun t => (t.dsc.out, t.dsc.lfsr)) = some (sym .error 0, 0x1A6112) := by decide +kernel
/-- V7.5. -/
theorem test_scr_stop : after (.scrStop .scr) (scrAt 0x1234 true 0)
    (fun t => (t.scr.run, t.scr.lfsr, t.scr.aft)) = some (false, 0xFFFF, false) := by decide +kernel
/-- V7.5. -/
theorem test_scr_start_bubble :
    (after (.scrStart .dsc) s0 (fun t => t.dsc.run), after (.scrBubble .scr) (scrAt 0x1234 true 5) (fun t => t.scr)) =
    (some true, some { (scrAt 0x1234 true 5).scr with outValid := false }) := by decide +kernel
/-- The dispatch of one symbol under each codec (V7.2, symbols 8 and 15; V7.4, block 6). -/
theorem test_select_scr :
    (selectScr8 s0 .scr (sym .control 0xFB), selectScr8 (scrAt 0 false 3) .scr (sym .data 0),
     selectScr128 .dsc (sym .control 0x1E)) =
    (.scr8Ctl .scr (sym .control 0xFB), .scr8Bypass .scr (sym .data 0), .scr128Os .dsc (sym .control 0x1E)) := by
  decide +kernel

-- Idle and receiver detect

/-- V6.1, steps 3, 6 and 7. -/
theorem test_debounce :
    [after .idlDebounce (s0.setIdl { cnt := 2, present := false }) (fun t => t.idl),
     after .idlDebounce ((s0.setIdl { cnt := 2, present := false }).setSync { s0.sync with sdC2 := true }) (fun t => t.idl),
     after .idlDebounce ((s0.setIdl { cnt := 3, present := false }).setSync { s0.sync with sdC2 := true }) (fun t => t.idl)] =
    [some { cnt := 0, present := false }, some { cnt := 3, present := false },
     some { cnt := 0, present := true }] := by decide +kernel
/-- V6.3. -/
theorem test_rxd :
    (after .rxdStart s0 (fun t => t.rxd),
     after .rxdDone ((s0.setRxd { s0.rxd with busy := true }).setInp { s0.inp with rxdetDone := true, rxdetPresent := true })
       (fun t => (t.rxd, t.ctl.phyStatus)),
     after .rxdClear (s0.setRxd { busy := false, done := true, present := true }) (fun t => t.rxd)) =
    (some { busy := true, done := false, present := false },
     some ({ busy := false, done := true, present := true }, true),
     some { busy := false, done := false, present := true }) := by decide +kernel

-- The controller

/-- V9.1. -/
theorem test_hardreset : after .ctlHardreset (active.setLc { s0.lc with rate := 2, power := 1, errCause := .bufferUnderflow })
    (fun t => (t.ctl.state, t.lc, t.cdc.req)) = some (.reset, LinkConfig.init Params.default, false) := by
  decide +kernel
/-- V9.2, V9.3: the timer at its limit, and one below it. -/
theorem test_timeout_select :
    (selectCtl ((inState .detect).setCtl { s0.ctl with state := .detect, timer := 4096 }),
     selectCtl ((inState .detect).setCtl { s0.ctl with state := .detect, timer := 4095 })) =
    (.ctlTimeout, .ctlStay) := by decide +kernel
/-- V9.2. -/
theorem test_ctl_timeout : after .ctlTimeout (inState .detect) (fun t => (t.ctl.state, t.ctl.cause)) =
    some (.transition, .commandTimeout) := by decide +kernel
/-- V9.3, and the reset of the timer on a change of state. -/
theorem test_tick :
    (after (.ctlTick .detect) ((inState .detect).setCtl { s0.ctl with state := .detect, timer := 4095 }) (fun t => t.ctl.timer),
     after (.ctlTick .detect) ((inState .align).setCtl { s0.ctl with state := .align, timer := 9 }) (fun t => t.ctl.timer)) =
    (some 4096, some 0) := by decide +kernel
/-- V4.1, step c5, with codec 1. -/
theorem test_reset_req : after .ctlResetReq (s0.setLc { s0.lc with rate := 2 }) (fun t => (t.ctl.state, t.cdc)) =
    some (.reset, { req := true, cmd := 0b1111 }) := by decide +kernel
/-- V4.1, step c10. -/
theorem test_reset_done : after .ctlResetDone (s0.setCdc { req := true, cmd := 7 })
    (fun t => (t.ctl.state, t.ctl.rxCfgDone, t.cdc.req)) = some (.detect, true, true) := by decide +kernel
/-- V4.1, step c11. -/
theorem test_detect_ok : after .ctlDetectOk ((inState .detect).setCdc { req := true, cmd := 7 })
    (fun t => (t.ctl.state, t.cdc.req)) = some (.align, false) := by decide +kernel
/-- R230 (c): with a signal present, and at a power-up from IDLE, the controller waits while the acknowledge is
down, and goes on when it is up. -/
theorem test_lower_needs_ack :
    let detect := ((inState .detect).setCdc { req := true, cmd := 7 }).setIdl { s0.idl with present := true }
    let idle := ((inState .idle).setCdc { req := true, cmd := 2 }).setCtl
      { s0.ctl with state := .idle, rxCfgDone := true, idleDone := true }
    let acked := fun (s : State) => s.setSync { s.sync with ackC2 := true }
    [selectCtl detect, selectCtl (acked detect), selectCtl idle, selectCtl (acked idle)] =
    [.ctlStay, .ctlDetectOk, .ctlStay, .ctlPowerup] := by decide +kernel
/-- V9.4. -/
theorem test_align_ok : after .ctlAlignOk (inState .align) (fun t => t.ctl.state) = some .configure := by
  decide +kernel
/-- V9.5. -/
theorem test_configure_ok : after .ctlConfigureOk (inState .configure) (fun t => (t.ctl.state, t.ctl.phyStatus)) =
    some (.active, true) := by decide +kernel
/-- V9.13. -/
theorem test_powerdown : after .ctlPowerdown (active.setNet { s0.net with powerdown := 2 })
    (fun t => (t.ctl.state, t.lc.power, t.cdc, t.ctl.idleDone)) =
      some (.idle, 2, { req := true, cmd := 0b0010 }, false) := by decide +kernel
/-- R304. -/
theorem test_idle_ack : after .ctlIdleAck (inState .idle) (fun t => (t.ctl.idleDone, t.ctl.phyStatus)) =
    some (true, true) := by decide +kernel
/-- R305. -/
theorem test_idle_change : after .ctlIdleChange ((inState .idle).setNet { s0.net with powerdown := 3 })
    (fun t => (t.lc.power, t.ctl.phyStatus, t.ctl.state)) = some (3, true, .idle) := by decide +kernel
/-- V9.14. -/
theorem test_powerup : after .ctlPowerup (((inState .idle).setCdc { req := true, cmd := 2 }).setLc { s0.lc with power := 2 })
    (fun t => (t.ctl.state, t.lc.power, t.cdc.req)) = some (.configure, 0, false) := by decide +kernel
/-- V9.7. -/
theorem test_rate : after (.ctlRate 1) active (fun t => (t.ctl.state, t.lc.pendRate, t.ctl.causeIsRate, t.lc.rate)) =
    some (.transition, 1, true, 0) := by decide +kernel
/-- V9.9. -/
theorem test_fatal : after (.ctlFatal .bufferUnderflow) active (fun t => (t.ctl.state, t.ctl.cause)) =
    some (.transition, .bufferUnderflow) := by decide +kernel
/-- V9.10. -/
theorem test_fatal_order : selectCtl ((active.setSync { s0.sync with ovfC2 := true }).setEbr { s0.ebr with unf := true }) =
    .ctlFatal .bufferOverflow := by decide +kernel
/-- V9.15. -/
theorem test_transition_close : after .ctlTransitionClose ((inState .transition).setCdc { req := true, cmd := 7 })
    (fun t => (t.ctl.state, t.cdc.req)) = some (.transition, false) := by decide +kernel
/-- V9.16: the return from a rate command. -/
theorem test_transition_rate :
    after .ctlTransitionDone (((inState .transition).setLc { s0.lc with pendRate := 1, power := 2 }).setCtl
        { s0.ctl with state := .transition, causeIsRate := true, rxCfgDone := true })
      (fun t => ((t.ctl.state, t.lc.rate, t.lc.power), t.ctl.rxCfgDone, t.lc.errCause)) =
    some ((.reset, 1, 0), false, .none) := by decide +kernel
/-- V9.17: the return from a structural error. -/
theorem test_transition_error :
    after .ctlTransitionDone ((inState .transition).setCtl
        { s0.ctl with state := .transition, cause := .bufferUnderflow })
      (fun t => ((t.ctl.state, t.lc.rate, t.lc.power), t.ctl.rxCfgDone, t.lc.errCause)) =
    some ((.reset, 0, 0), false, .bufferUnderflow) := by decide +kernel
/-- V9.11, V9.12. -/
theorem test_monitor :
    (after .ctlMonitor ((active.setCtl { active.ctl with errRun := 15 }).setEbr
        { s0.ebr with out := sym .error 0, outValid := true, rdState := .running })
       (fun t => (t.ctl.errRun, t.ctl.lossRun)),
     after .ctlMonitor ((active.setCtl { active.ctl with lossRun := 1 })) (fun t => (t.ctl.errRun, t.ctl.lossRun))) =
    (some (16, 1), some (0, 2)) := by decide +kernel
/-- R312. -/
theorem test_codec :
    (after .ctlCodec ((inState .transition).setLc { s0.lc with rate := 2 }) (fun t => t.lc.codec),
     after .ctlCodec (active.setLc { s0.lc with rate := 2 }) (fun t => t.lc.codec)) =
    (some .c128b130b, some .c8b10b) := by decide +kernel
/-- V9.6. -/
theorem test_stay : after .ctlStay active id = some active ∧ selectCtl active = .ctlStay := by decide +kernel

-- The adapter

/-- V8.1, every row. -/
theorem test_status :
    [rxStatusOf true (sym .error 0) true true true, rxStatusOf true { sym .error 0 with ek := .disp } true false false,
     rxStatusOf true { sym .error 0 with ek := .disp } false true false,
     rxStatusOf true { sym .error 0 with ek := .disp, dl := true } false false false,
     rxStatusOf true { skp with ins := true } false false true,
     rxStatusOf true { sym .data 0 with dl := true } false false false, rxStatusOf false (sym .data 0) false false true,
     rxStatusOf false (sym .data 0) false true true, rxStatusOf true (sym .data 0x4A) false false false].map RxStatus.num =
    [4, 5, 6, 7, 1, 2, 3, 6, 0] := by decide +kernel
/-- V8.1, row 1. -/
theorem test_pa_status : after .paStatus (active.setDsc { s0.dsc with out := sym .error 0, outValid := true })
    (fun t => t.pa.rxStatus) = some .decodeError := by decide +kernel
/-- V8.2. -/
theorem test_rxmap :
    (after (.paRxmap true (sym .control 0xBC)) active (fun t => defaultOutputs t |> fun o => (o.rxValid, o.rxData, o.rxDatak)),
     after (.paRxmap true (sym .control 0xBC)) (inState .configure)
       (fun t => (t.pa.rxValid, defaultOutputs t |> fun o => (o.rxValid, o.rxData, o.rxDatak)))) =
    (some (true, 0xBC, true), some (true, false, 0, false)) := by decide +kernel
/-- V8.3. -/
theorem test_txmap :
    (after (.paTxmap 0x12BC true false) active (fun t => (t.net.txValid, t.net.txRec)),
     after (.paTxmap 0x12BC true true) active (fun t => t.net.txValid)) =
    (some (true, sym .control 0xBC), some false) := by decide +kernel
/-- V8.4, and the pins as they reach the controller. -/
theorem test_cmdmap : after (.paCmdmap 0b1110110) active
    (fun t => (t.net.rate, t.net.powerdown, t.net.txElecidle, t.net.txDetectrx)) = some (3, 1, true, false) := by
  decide +kernel

-- Steps

/-- From power-up with nothing placed, the first edges are those of the free environment; with a line at the
head of the sequence, the step is that line's edge, and a word's operation runs. -/
theorem test_step_runs_fetched :
    seen (step (State.reset.withFetchWord 160 (2 ^ 152 * 51 + 0b110111100))) (fun t => (t.enc.outWord, t.stim)) =
      some (0x17C, []) := by decide +kernel
/-- The commands of one held step, `0b0111` (V4.1, step x8). -/
theorem test_step_hold : seen (step ((held 7).setStim [.rx 0x155 .now]))
    (fun t => (t.al.prev, t.al.conf, t.ebw.wptr, t.dec.rdKnown, t.cdcRx.ack)) =
      some (0x155, 0, 0, false, true) := by decide +kernel

-- Witnesses: for every statement with hypotheses, states and operands that meet them, clause by clause at
-- boundary values. `holds o f` is the hypothesis `o = .next t` with `f t` (`holds_next`).

/-- A CORE line with these pins. -/
def coreLine (m : MacPins) : Stimulus :=
  .core { mac := m, sigdet := true, rxdetDone := false, rxdetPresent := false } .now
/-- A machine that every edge answers from. -/
def answers (o : Host.Outcome State Fault Refusal) : Bool := holds o (fun _ => true)
/-- A configuration outside R10. -/
def illegal : State := State.resetWith { Params.default with bufferDepth := 8 }
/-- The aligner delivers this line symbol under this codec, to a decoder with this disparity. -/
def delivering (c : Codec) (rd : Rd) (known : Bool) (v : Nat) : State :=
  ((heard rd known v).setRcfgCodec c).setAl { (heard rd known v).al with locked := true, conf := 1 }

theorem test_witness_StepRunsSelectedOperations :
    s0.cfg.legal = true ∧
    answers (runOps (selectNets (s0.present (coreLine s0.quietPins))) (s0.present (coreLine s0.quietPins))) = true ∧
    (s0.present (coreLine s0.quietPins)).inp.mac.resetN = true ∧
    (s0.present (coreLine MacPins.zero)).inp.mac.resetN = false ∧
    (s0.setStim [.rx 0 .now]).stim = [Stimulus.rx 0 .now] ∧ answers (exec .cdcAck s0) = true := by decide +kernel

theorem test_witness_FetchedOperationIsPerformed :
    decodeTableWord 160 (2 ^ 152 * 51 + 0x1BC) = some (.enc10K 0xBC) ∧ (Instr.enc10K 0xBC).wellFormed = true ∧
    producible Params.default (.enc10K 0xBC) = true ∧
    Instr.enc10K 0xBC ∈ nextOps (State.reset.withFetchWord 160 (2 ^ 152 * 51 + 0x1BC)) ∧
    decodeTableWord 160 (2 ^ 152 * 83) = none := by decide +kernel

theorem test_witness_StepAlwaysAnswers :
    s0.cfg.legal = true ∧ illegal.cfg.legal = false := by decide +kernel

/-- The invariant holds at reset, from which a step answers. -/
theorem test_witness_StepKeepsInvariant :
    EngineInv (s0.setStim [.rx 0x155 .now]) ∧ answers (step (s0.setStim [.rx 0x155 .now])) = true ∧
    EngineInv (s0.setStim [coreLine s0.quietPins]) ∧ answers (step (s0.setStim [coreLine s0.quietPins])) = true := by
  refine ⟨?_, by decide +kernel, ?_, by decide +kernel⟩ <;> constructor <;>
    first | decide +kernel | (constructor <;> decide +kernel)

theorem test_witness_SelectedOperationsAreWellFormed : EngineInv s0 := by
  constructor <;> first | decide +kernel | (constructor <;> decide +kernel)

/-- The least legal configuration and the default one. -/
theorem test_witness_EveryLegalPowerUpHasInvariant :
    Params.default.legal = true ∧
    { Params.default with supportedRates := [3], codecVariant := [(3, .c128b130b)], lockThreshold := 2,
                          confMax := 2, alignTimeout := 1, tDetect := 1, tAlign := 1, tConfigure := 1,
                          alignLossLimit := 1, decodeErrLimit := 1, sigdetDebounce := 1 }.legal = true := by
  decide +kernel

theorem test_witness_OperationsLeaveEnvironment :
    (answers (exec .cdcAck s0) && answers (exec (.ebWrite skp) s0)) = true := by decide +kernel

/-- For each register group, an operation that writes it. -/
theorem test_witness_RegistersHaveOneOwner :
    holds (exec .rxcmdRealign (aligned 5 3 7 0 true)) (fun t => t.al != (aligned 5 3 7 0 true).al) ∧
    holds (exec .decBubble (heard .plus true 0 |>.setDec { s0.dec with outValid := true }))
      (fun t => t.dec != { s0.dec with outValid := true }) ∧
    holds (exec (.rxcmdDecreset .c128b130b) s0) (fun t => t.rcfgCodec != s0.rcfgCodec) ∧
    holds (exec (.ebWrite skp) s0) (fun t => t.mem != s0.mem && t.ebw != s0.ebw) ∧
    holds (exec (.cdcSync .core) (held 7 |>.setCdcRx { s0.cdcRx with ack := true })) (fun t => t.sync != s0.sync) ∧
    holds (exec .idlDebounce (s0.setSync { s0.sync with sdC2 := true })) (fun t => t.idl != s0.idl) ∧
    holds (exec (.cdcReq 2) s0) (fun t => t.cdc != s0.cdc) ∧
    holds (exec (.ctlRate 1) s0) (fun t => t.lc != s0.lc && t.ctl != s0.ctl) ∧
    holds (exec .rxdStart s0) (fun t => t.rxd != s0.rxd) ∧
    holds (exec (.paRxmap true skp) s0) (fun t => t.pa != s0.pa) ∧
    holds (exec (.enc10D 0) s0) (fun t => t.enc != s0.enc) ∧
    holds (exec .ebPrime s0) (fun t => t.ebr != s0.ebr) ∧
    holds (exec (.scrStart .scr) s0) (fun t => t.scr != s0.scr) ∧
    holds (exec (.scrStart .dsc) s0) (fun t => t.dsc != s0.dsc) ∧
    holds (exec .cdcAck (held 7)) (fun t => t.cdcRx != (held 7).cdcRx) ∧
    holds (exec (.paCmdmap 1) s0) (fun t => t.net != s0.net) := by decide +kernel

theorem test_witness_LinkConfigurationWriters :
    let s := (inState .transition).setCtl { s0.ctl with state := .transition, causeIsRate := true }
    holds (exec .ctlTransitionDone (s.setLc { s.lc with pendRate := 2 })) (fun t => t.lc.rate != s.lc.rate) ∧
    holds (exec .ctlPowerdown (active.setNet { s0.net with powerdown := 3 })) (fun t => t.lc.power != active.lc.power) ∧
    holds (exec .ctlCodec (s0.setLc { s0.lc with rate := 2 })) (fun t => t.lc.codec != s0.lc.codec) ∧
    holds (exec (.ctlRate 3) s0) (fun t => t.lc.pendRate != s0.lc.pendRate) ∧
    holds (exec .ctlTransitionDone ((inState .transition).setCtl { s0.ctl with cause := .alignmentLost }))
      (fun t => t.lc.errCause != s0.lc.errCause) := by decide +kernel

/-- For AgentsWriteOwnDomains, RxEdgeIsSimultaneous and CoreEdgeIsSimultaneous. -/
theorem test_witness_edges_answer :
    answers (rxEdge s0) = true ∧ answers (coreEdge s0) = true ∧ (quiet s0).inp.mac.resetN = true ∧
    answers (coreEdge (quiet s0)) = true := by decide +kernel

theorem test_witness_EncodeDecodeRoundTrip :
    (Instr.ebInsert (Slot.ofRec skp true)).wellFormed = true ∧ (Instr.cdcReq 15).wellFormed = true ∧
    decode (toBytes 20 (encode (.cdcReq 15))) = .ok (.cdcReq 15) := by decide +kernel

/-- K28.5 has six ones from RD- and four from RD+. -/
theorem test_witness_CodeWordDisparityBalanced :
    (true, (0xBC : Byte)) ∈ Code10.symbols ∧ Code10.popcount 10 (Code10.enc10 true 0xBC .minus).1.toNat = 6 ∧
    Code10.popcount 10 (Code10.enc10 true 0xBC .plus).1.toNat = 4 := by decide +kernel

theorem test_witness_DecoderFollowsEncoder :
    Code10.isK 0xFE = true ∧ (heard .minus true 0).dec.rdKnown = true ∧
    answers (exec (.dec10Ok (Code10.enc10 false 0xFF .plus).1) (heard .plus true 0)) = true := by decide +kernel

/-- The top of the range of the narrowest and of the default pointer. -/
theorem test_witness_GrayCodeIsSafe :
    (0 : Nat) < 2 ^ 0 ∧ (1 : Nat) < 2 ^ 1 ∧ (31 : Nat) < 2 ^ 5 ∧ gray 31 ^^^ gray 0 = 2 ^ 4 ∧
    gray 7 ^^^ gray 7 = 0 ∧ sampleNat true 0x1F (gray 31) (gray 0) = gray 31 := by decide +kernel

theorem test_witness_SlotWriteThenRead :
    Memory.wf [] = true ∧ Memory.wf [(0, Slot.ofRec skp false), (15, Slot.ofRec skp true)] = true := by decide +kernel

theorem test_witness_CanonicalMemoriesEqual :
    let m : Memory := [(0, Slot.ofRec skp false)]
    m.wf = true ∧ (Memory.write [] 0 (Slot.ofRec skp false)).wf = true ∧
    ∀ i, m.read i = (Memory.write [] 0 (Slot.ofRec skp false)).read i :=
  ⟨by decide +kernel, by decide +kernel, fun _ => rfl⟩

/-- A comma across two words (V1.1, step 2), and a block marker at the last offset. -/
theorem test_witness_AlignerResults :
    hits .c8b10b ((aligned 0x3E0 0 0 0 false).al.prev.toNat % 2 ^ 10 + 2 ^ 10 * ((0x152 : Block).toNat % 2 ^ 10)) = [3] ∧
    hits .c128b130b (2 ^ 129 * (eieosBlk.toNat)) = [129] := by decide +kernel

theorem test_witness_AlignerTimeoutResult :
    1 ≤ s0.cfg.lockThreshold ∧ s0.cfg.alignTimeout ≤ (aligned 0 3 5 4096 true).al.since ∧
    (aligned 0 3 5 4095 true).al.since < s0.cfg.alignTimeout := by decide +kernel

/-- The invariant at a machine after power-up whose aligner is at these values, under any inputs. -/
theorem test_aligned_inv (prev offset conf since : Nat) (locked : Bool) (ho : offset < 130) (hc : conf ≤ 7)
    (hs : since < 4096) (hl : locked = true → 0 < conf) (i : Inputs) :
    EngineInv ((aligned prev offset conf since locked).setInp i) :=
  let h := test_witness_SelectedOperationsAreWellFormed
  { config := h.config
    memory := ⟨h.memory.1, h.memory.2, h.memory.3⟩
    aligner := ⟨ho, hc, hs, hl, rfl⟩
    decoder := ⟨h.decoder.1, h.decoder.2, h.decoder.3⟩
    pointers := ⟨h.pointers.1, h.pointers.2, h.pointers.3, h.pointers.4, h.pointers.5, h.pointers.6, h.pointers.7,
      h.pointers.8⟩
    read := ⟨h.read.1, h.read.2, h.read.3⟩
    scrambler := h.scrambler
    descrambler := h.descrambler
    transmit := ⟨h.transmit.1, h.transmit.2⟩
    outputs := ⟨h.outputs.1, h.outputs.2⟩
    counters := ⟨h.counters.1, h.counters.2, h.counters.3, h.counters.4⟩
    request := ⟨h.request.1, h.request.2, h.request.3⟩
    link := ⟨h.link.1, h.link.2, h.link.3, h.link.4, h.link.5, h.link.6⟩
    ready := ⟨h.ready.1, h.ready.2⟩ }

theorem test_witness_LockHysteresis :
    let rise := (aligned 0x01D 3 3 2 false).setInp { s0.inp with rxWord := 0x155 }
    let fall := (aligned 0x380 3 1 21 true).setInp { s0.inp with rxWord := 0x14B }
    let miss := (aligned 0x380 3 2 4094 true).setInp { s0.inp with rxWord := 0x14B }
    EngineInv rise ∧ EngineInv fall ∧ EngineInv miss ∧
    holds (rxEdge rise) (fun t => !rise.al.locked && t.al.locked) ∧
    holds (rxEdge fall) (fun t => fall.al.locked && !t.al.locked) ∧
    holds (rxEdge miss) (fun t => !miss.commanded 0 && miss.al.locked && t.al.locked && t.al.conf == 1) ∧
    miss.al.since + 1 < s0.cfg.alignTimeout :=
  ⟨test_aligned_inv _ _ _ _ _ (by decide) (by decide) (by decide) (by decide) _,
   test_aligned_inv _ _ _ _ _ (by decide) (by decide) (by decide) (by decide) _,
   test_aligned_inv _ _ _ _ _ (by decide) (by decide) (by decide) (by decide) _, by decide +kernel⟩

theorem test_witness_DecodeKnownResults :
    Code10.decCol .minus 0x17C = some (true, 0xBC) ∧ Code10.decCol .minus 0x2E1 = none ∧
    Code10.decCol (Code10.flip .minus) 0x2E1 = some (false, 0x9E) ∧ Code10.decCol .minus 0x3FF = none ∧
    Code10.decCol (Code10.flip .minus) 0x3FF = none := by decide +kernel

theorem test_witness_DecodeAcquireResults :
    Code10.decCol .minus 0x2AA = some (false, 0x4A) ∧ Code10.decCol .plus 0x2AA = some (false, 0x4A) ∧
    Code10.decCol .minus 0x17C = some (true, 0xBC) ∧ Code10.decCol .plus 0x17C = none ∧
    Code10.decCol .minus 0x283 = none ∧ Code10.decCol .plus 0x283 = some (true, 0xBC) ∧
    Code10.decCol .minus 0 = none ∧ Code10.decCol .plus 0 = none := by decide +kernel

theorem test_witness_UndecodableIsNeverData :
    let bad := delivering .c8b10b .minus false 0x3FF
    let disp := delivering .c8b10b .minus true 0x2E1
    (answers (rxEdge bad) && !bad.commanded 2 && bad.al.outValid) = true ∧
    Code10.decCol .minus bad.lineSymbol = none ∧ Code10.decCol .plus bad.lineSymbol = none ∧
    (answers (rxEdge (delivering .c128b130b .minus false 4)) && answers (rxEdge (delivering .c128b130b .minus false 7))) = true ∧
    answers (rxEdge disp) = true ∧ disp.dec.rdKnown = true ∧ Code10.decCol disp.dec.rd disp.lineSymbol = none ∧
    (Code10.decCol (Code10.flip disp.dec.rd) disp.lineSymbol).isSome = true := by decide +kernel

/-- The smallest depth, and the written index beside the next one. -/
theorem test_witness_SlotWriteResult :
    let s := { s0 with cfg := { s0.cfg with bufferDepth := 1 } }
    0 < s.cfg.bufferDepth ∧ s.mem.wf = true ∧ answers (exec (.ebWrite skp) s) = true ∧
    0 = s.ebw.wptr % s.cfg.bufferDepth ∧ 1 ≠ s.ebw.wptr % s.cfg.bufferDepth := by decide +kernel

/-- V5.5a: fifteen records in the buffer, with the read pointer as the write side knows it. -/
theorem test_witness_BoundaryWriteThenOverflow :
    EngineInv (writing 15 0 skp) ∧ (writing 15 0 skp).commanded 1 = false ∧
    (writing 15 0 skp).dec.outValid = true ∧ (writing 15 0 skp).fillW = s0.cfg.bufferDepth - 1 ∧
    (writing 15 0 skp).ebw.rgrayW2 = gray (writing 15 0 skp).ebr.rptr := by
  refine ⟨?_, by decide +kernel⟩
  constructor <;> first
    | decide +kernel
    | (constructor <;> decide +kernel)

/-- A filler is deleted at fills 12 and 14, a record overflows at 16, a filler is repeated at fills 1 and 4
and read at 5, and data is read at 1 and 16. -/
theorem test_witness_OnlyFillersAddedOrDropped :
    [selectWrite (writing 12 0 skp), selectWrite (writing 14 0 skp), selectWrite (writing 16 0 (sym .data 1))] =
      [.ebDelete skp, .ebDelete skp, .ebOverflow (sym .data 1)] ∧
    [selectRead (reading 3 (gray 4) (Slot.ofRec skp false)), selectRead (reading 3 (gray 7) (Slot.ofRec skp false)),
     selectRead (reading 3 (gray 8) (Slot.ofRec skp false)), selectRead (reading 3 (gray 4) (Slot.ofRec (sym .data 1) false)),
     selectRead (reading 3 (gray 19) (Slot.ofRec (sym .data 1) false))] =
      [.ebInsert (Slot.ofRec skp false), .ebInsert (Slot.ofRec skp false), .ebRead (Slot.ofRec skp false),
       .ebRead (Slot.ofRec (sym .data 1) false), .ebRead (Slot.ofRec (sym .data 1) false)] := by decide +kernel

theorem test_witness_BufferFlagsAreSticky :
    let full := s0.setEbw { s0.ebw with ovf := true }
    let empty := quiet (s0.setEbr { s0.ebr with unf := true })
    let flagged := quiet ((reading 7 4 Slot.blank).setCdc { req := true, cmd := 4 })
    (answers (rxEdge full) && !full.commanded 1 && full.ebw.ovf) = true ∧
    holds (rxEdge (writing 16 0 skp)) (fun t => t.ebw.ovf) ∧
    (answers (coreEdge empty) && !empty.cdc.req && empty.ebr.unf) = true ∧
    holds (coreEdge (quiet (reading 7 4 Slot.blank))) (fun t => t.ebr.unf) ∧
    flagged.cdc.cmd.getLsbD 1 = false ∧ holds (coreEdge flagged) (fun t => t.ebr.unf) := by decide +kernel

theorem test_witness_ScramblerRoundTrip :
    (inState .configure).ctl.state = .configure ∧ active.ctl.state = .active ∧ active.scr.lfsr = active.dsc.lfsr ∧
    active.scr.aft = active.dsc.aft ∧ active.scr.cnt = active.dsc.cnt := by decide +kernel

/-- A data record, a control record, and a bubble that leaves the output as it is. -/
theorem test_witness_ScramblerTouchesDataOnly :
    holds (exec (.scr8Data .scr (sym .data 0x4A)) s0) (fun t => t.scr.out.data != 0x4A) ∧
    holds (exec (.scr8Ctl .dsc (sym .control 0xFB)) s0) (fun t => t.dsc.out == sym .control 0xFB) ∧
    holds (exec (.scrBubble .scr) s0) (fun t => t.scr.out == s0.scr.out) ∧
    Instr.scrBubble .scr ∈ [Instr.scrStop .scr, .scrStart .scr, .scrBubble .scr] := by decide +kernel

theorem test_witness_DebounceResult :
    let raised := fun n => (s0.setIdl { cnt := n, present := false }).setSync { s0.sync with sdC2 := true }
    s0.sync.sdC2 = s0.idl.present ∧ (raised 3).sync.sdC2 ≠ (raised 3).idl.present ∧
    s0.cfg.sigdetDebounce ≤ (raised 3).idl.cnt + 1 ∧ (raised 2).idl.cnt + 1 < s0.cfg.sigdetDebounce := by decide +kernel

theorem test_witness_EscalationResults :
    (active.setCtl { active.ctl with causeIsRate := true }).ctl.causeIsRate = true ∧ active.ctl.causeIsRate = false := by
  decide +kernel

/-- A wait state that stays, one that is left, and a state that is no wait state. -/
theorem test_witness_ControllerCounterResults :
    (inState .detect).ctl.state = .detect ∧ (inState .align).ctl.state = .align ∧
    (inState .configure).ctl.state = .configure ∧ (inState .align).ctl.state ≠ .detect ∧
    (inState .idle).ctl.state = .idle ∧ s0.ctl.state = .reset ∧ (inState .transition).ctl.state = .transition ∧
    (answers (exec (.ctlTick .detect) (inState .align)) && answers (exec .ctlCodec (inState .idle))) = true := by
  decide +kernel

theorem test_witness_TransitionTable :
    let overflow := quiet (active.setSync { s0.sync with ovfC2 := true })
    let late := quiet ((inState .detect).setCtl { s0.ctl with state := .detect, timer := 4096 })
    s0.inp.mac.resetN = false ∧ answers (coreEdge s0) = true ∧
    holds (coreEdge overflow) (fun t => t.ctl.state == .transition) ∧ selectCtl overflow = .ctlFatal .bufferOverflow ∧
    holds (coreEdge late) (fun t => t.ctl.state == .transition) ∧ selectCtl late = .ctlTimeout := by decide +kernel

theorem test_witness_FatalIsTakenFirst :
    let overflow := quiet (active.setSync { s0.sync with ovfC2 := true })
    let back := quiet ((inState .transition).setCtl { s0.ctl with state := .transition, cause := .bufferOverflow })
    overflow.inp.mac.resetN = true ∧ answers (coreEdge overflow) = true ∧ overflow.fatal ≠ .none ∧
    overflow.ctl.state ≠ .transition ∧ answers (coreEdge back) = true ∧ back.inp.mac.resetN = true ∧
    back.ctl.state = .transition ∧ back.cdc.req = false ∧ back.ctl.causeIsRate = false := by decide +kernel

/-- Each condition at its limit with those before it absent, and the last values at which none holds. -/
theorem test_witness_FatalOrder :
    let c := fun q timer loss err => (inState q).setCtl
      { s0.ctl with state := q, timer := timer, lossRun := loss, errRun := err }
    [((c .align 0 0 0).setSync { s0.sync with ovfC2 := true }).fatal,
     ((c .align 0 0 0).setEbr { s0.ebr with unf := true }).fatal, (c .configure 0 2 0).fatal,
     (c .active 0 1 16).fatal, (c .detect 4096 0 0).fatal, (c .align 16384 0 0).fatal, (c .configure 256 1 0).fatal,
     (c .active 9999 1 15).fatal, (c .detect 4095 0 0).fatal] =
    [.bufferOverflow, .bufferUnderflow, .alignmentLost, .scramblerDesync, .commandTimeout, .commandTimeout,
     .commandTimeout, .none, .none] := by decide +kernel

theorem test_witness_WaitStatesAreBounded :
    let s := quiet ((inState .detect).setCtl { s0.ctl with state := .detect, timer := 4095 })
    s.inp.mac.resetN = true ∧ waits s.ctl.state = true ∧
    holds (coreEdge s) (fun t => t.ctl.state == .detect && t.ctl.timer == 4096) ∧
    timeLimit s.cfg s.ctl.state = some 4096 := by decide +kernel

/-- The active rate, and the one rate the default configuration does not support. -/
theorem test_witness_RateCommandIsIdempotent :
    let other := active.setInp { s0.inp with mac := { s0.quietPins with rate := 3 } }
    (quiet active).inp.mac.rate = active.lc.rate ∧ answers (coreEdge (quiet active)) = true ∧
    (quiet active).fatal = .none ∧ active.ctl.state ≠ .transition ∧ other.cfg.supports other.inp.mac.rate = false ∧
    other.inp.mac.resetN = true ∧ answers (coreEdge other) = true := by decide +kernel

theorem test_witness_RequestDiscipline :
    let down := active.setInp { s0.inp with mac := { s0.quietPins with powerdown := 1 } }
    let ready := quiet ((((inState .detect).setCdc { req := true, cmd := 7 }).setIdl
      { s0.idl with present := true }).setSync { s0.sync with ackC2 := true })
    holds (coreEdge (quiet s0)) (fun t => t.cdc.req && t.cdc.cmd != s0.cdc.cmd) ∧ s0.cdc.req = false ∧
    ready.inp.mac.resetN = true ∧ ready.cdc.req = true ∧ holds (coreEdge ready) (fun t => !t.cdc.req) ∧
    down.inp.mac.resetN = true ∧ down.cdc.req = false ∧ holds (coreEdge down) (fun t => t.cdc.req && t.cdc.cmd == 2) := by
  decide +kernel

theorem test_witness_HardResetEdge :
    active.inp.mac.resetN = false ∧
    holds (coreEdge active) (fun t => !t.inp.mac.resetN && answers (coreEdge t)) := by decide +kernel

/-- Each status with every later condition present and no earlier one. -/
theorem test_witness_StatusPriority :
    let bad := { sym .error 0 with ek := .disp, dl := true }
    [rxStatusOf true { sym .error 0 with dl := true } true true true, rxStatusOf true bad true true true,
     rxStatusOf true bad false true true, rxStatusOf true bad false false true,
     rxStatusOf true { skp with ins := true, dl := true } false false true,
     rxStatusOf true { skp with dl := true } false false true, rxStatusOf false skp false false true,
     rxStatusOf false { sym .error 0 with ins := true } false false false].map RxStatus.num =
    [4, 5, 6, 7, 1, 2, 3, 0] := by decide +kernel

theorem test_witness_OutputsGatedByReady :
    let send := active.setInp { s0.inp with mac := { s0.quietPins with txElecidle := false } }
    (defaultOutputs (active.setPa { s0.pa with rxValid := true })).rxValid = true ∧ (defaultOutputs s0).rxValid = false ∧
    send.inp.mac.resetN = true ∧ holds (coreEdge send) (fun t => t.scr.outValid) ∧
    dataflow (inState .idle).ctl.state = false ∧ answers (coreEdge (quiet (inState .idle))) = true ∧
    answers (coreEdge (quiet (inState .transition))) = true := by decide +kernel

end Sys2Proof.Tests
end

section
/-! PROOF. The slot array: what a write reads back. -/

namespace Sys2Proof.Machine

/-- Below the lowest listed index every slot reads as blank. -/
theorem Memory.read_below {b j : Nat} (hj : j ≤ b) :
    ∀ {m : Memory}, Memory.wfFrom (some b) m = true → m.read j = .blank
  | [], _ => rfl
  | (a, v) :: rest, h => by
    obtain ⟨hlo, -, hrest⟩ := wfFrom_cons.1 h
    have hba : b < a := hlo b rfl
    simp only [Memory.read, show a ≠ j by omega, if_false]
    exact read_below (by omega) hrest

/-- What a write reads back, at a canonical array with any lower bound. -/
theorem Memory.read_write (i j : Nat) (w : Slot) :
    ∀ {m : Memory} {lo : Option Nat}, Memory.wfFrom lo m = true →
      (m.write i w).read j = if j = i then w else m.read j
  | [], _, _ => by
    by_cases hw : w = Slot.blank <;> simp [Memory.write, Memory.read, hw, eq_comm]
  | (a, v) :: rest, lo, h => by
    obtain ⟨-, -, hrest⟩ := wfFrom_cons.1 h
    have hblank : ∀ k, k ≤ a → Memory.read rest k = .blank := fun k hk => read_below hk hrest
    rcases lt_trichotomy i a with hia | rfl | hai
    · have hne : a ≠ i := by omega
      by_cases hw : w = Slot.blank <;> by_cases hj : j = i
      · simp [Memory.write, Memory.read, hia, hw, hj, hne, hblank i hia.le]
      · simp [Memory.write, hia, hw, hj]
      · simp [Memory.write, Memory.read, hia, hw, hj]
      · simp [Memory.write, Memory.read, hia, hw, hj, Ne.symm hj]
    · by_cases hw : w = Slot.blank <;> by_cases hj : j = i
      · simp [Memory.write, hw, hj, hblank i le_rfl]
      · simp [Memory.write, Memory.read, hw, hj, Ne.symm hj]
      · simp [Memory.write, Memory.read, hw, hj]
      · simp [Memory.write, Memory.read, hw, hj, Ne.symm hj]
    · have hwrite : Memory.write ((a, v) :: rest) i w = (a, v) :: Memory.write rest i w := by
        simp [Memory.write, show ¬i < a by omega, show i ≠ a by omega]
      rw [hwrite]
      by_cases hj : a = j
      · simp [Memory.read, hj, show j ≠ i by omega]
      · simp [Memory.read, hj, read_write i j w hrest]

/-- Settles O21: the written slot reads back and every other index as before. -/
theorem slotWriteThenRead : Obligations.SlotWriteThenRead :=
  fun _ i j v h => Memory.read_write i j v (lo := none) h

end Sys2Proof.Machine
end

section
/-! PROOF. Gray codes (R18, R239) and the samples of them (R226). -/

namespace Sys2Proof.Machine

/-- The Gray code is linear over exclusive or. -/
theorem gray_xor (x y : Nat) : gray (x ^^^ y) = gray x ^^^ gray y := by
  simp only [gray, Nat.xor_div_two]
  ac_rfl

theorem gray_half (x : Nat) : gray x / 2 = gray (x / 2) := Nat.xor_div_two

theorem half_lt_two_pow {n x : Nat} (h : x < 2 ^ (n + 1)) : x / 2 < 2 ^ n := by
  rw [pow_succ] at h; omega

/-- On `n` bits `ungray` undoes `gray`. -/
theorem ungray_gray : ∀ {n x : Nat}, x < 2 ^ n → ungray n (gray x) = x
  | 0, x, h => by simp at h; simp [ungray, h]
  | n + 1, x, h => by
    rw [ungray, gray_half, ungray_gray (half_lt_two_pow h), gray, Nat.xor_assoc, Nat.xor_self, Nat.xor_zero]

/-- On `n` bits `gray` undoes `ungray`. -/
theorem gray_ungray : ∀ {n x : Nat}, x < 2 ^ n → gray (ungray n x) = x
  | 0, x, h => by simp at h; simp [ungray, gray, h]
  | n + 1, x, h => by
    rw [ungray, gray_xor, gray_ungray (half_lt_two_pow h), gray, Nat.xor_assoc, Nat.xor_self, Nat.xor_zero]

/-- The Gray code of `i + 1` ones is the top bit alone. -/
theorem gray_ones (i : Nat) : gray (2 ^ (i + 1) - 1) = 2 ^ i := by
  have hhalf : (2 ^ (i + 1) - 1) / 2 = 2 ^ i - 1 := by rw [pow_succ]; omega
  rw [gray, hhalf]
  refine Nat.eq_of_testBit_eq fun j => ?_
  simp only [Nat.testBit_xor, Nat.testBit_two_pow_sub_one, Nat.testBit_two_pow]
  by_cases h : i = j
  · simp [h]
  · have hlt : j < i + 1 ↔ j < i := by omega
    simp [h, hlt]

/-- Exclusive or, by the halves and the lowest bits. -/
theorem xor_eq_halves (x y : Nat) : x ^^^ y = 2 * (x / 2 ^^^ y / 2) + (x + y) % 2 := by
  rw [← Nat.xor_div_two, ← Nat.xor_mod_two_eq, Nat.div_add_mod]

/-- An increment on `n + 1` bits inverts a run of low bits. -/
theorem xor_succ_ones : ∀ (n x : Nat), x < 2 ^ (n + 1) →
    ∃ i, i < n + 1 ∧ x ^^^ (x + 1) % 2 ^ (n + 1) = 2 ^ (i + 1) - 1
  | 0, x, h => ⟨0, by omega, by interval_cases x <;> rfl⟩
  | n + 1, x, h => by
    have hhalf : (x + 1) % 2 ^ (n + 2) / 2 = (x + 1) / 2 % 2 ^ (n + 1) := by
      rw [pow_succ', Nat.mod_mul_right_div_self]
    have hlow : (x + 1) % 2 ^ (n + 2) % 2 = (x + 1) % 2 :=
      Nat.mod_mod_of_dvd _ (dvd_pow_self 2 (by omega))
    have hbit : (x + (x + 1) % 2 ^ (n + 2)) % 2 = 1 := by omega
    rw [xor_eq_halves, hhalf, hbit]
    rcases Nat.mod_two_eq_zero_or_one x with heven | hodd
    · refine ⟨0, by omega, ?_⟩
      rw [show (x + 1) / 2 = x / 2 by omega, Nat.mod_eq_of_lt (half_lt_two_pow h), Nat.xor_self]
      rfl
    · obtain ⟨i, hi, hrun⟩ := xor_succ_ones n (x / 2) (half_lt_two_pow h)
      refine ⟨i + 1, by omega, ?_⟩
      rw [show (x + 1) / 2 = x / 2 + 1 by omega, hrun, pow_succ _ (i + 1)]
      have : 0 < 2 ^ (i + 1) := Nat.two_pow_pos _
      omega

/-- The Gray codes of a value and of its successor differ in one bit. -/
theorem gray_succ {n x : Nat} (hn : 1 ≤ n) (hx : x < 2 ^ n) :
    ∃ i, i < n ∧ gray x ^^^ gray ((x + 1) % 2 ^ n) = 2 ^ i := by
  obtain ⟨m, rfl⟩ := Nat.exists_eq_add_of_le' hn
  obtain ⟨i, hi, hrun⟩ := xor_succ_ones m x hx
  exact ⟨i, hi, by rw [← gray_xor, hrun, gray_ones]⟩

/-- A sample of a source that changes in one bit at most is the old or the present value. -/
theorem sampleNat_one_bit {moved : Bool} {mask old now i : Nat} (h : now ^^^ old = 0 ∨ now ^^^ old = 2 ^ i) :
    sampleNat moved mask old now = old ∨ sampleNat moved mask old now = now := by
  cases moved with
  | false => exact .inr rfl
  | true =>
    have htaken : (now ^^^ old) &&& mask = 0 ∨ (now ^^^ old) &&& mask = now ^^^ old := by
      rcases h with h | h <;> rw [h]
      · simp
      · rw [Nat.two_pow_and]
        cases mask.testBit i <;> simp
    rcases htaken with ht | ht
    · right; simp [sampleNat, ht]
    · left; simp [sampleNat, ht]

/-- Settles O20: the inverses by induction on the width, the increment from the run of low bits that it
inverts, the sample from the one bit that can be taken from the old value. -/
theorem grayCodeIsSafe : Obligations.GrayCodeIsSafe := by
  refine ⟨fun n x h => ⟨gray_lt h, ungray_gray h, ungray_lt h, gray_ungray h⟩, fun n x hn hx => gray_succ hn hx,
    fun moved mask old now i h => sampleNat_one_bit h, fun _ _ _ => rfl, sampleBit_cases⟩

end Sys2Proof.Machine
end

section
/-! PROOF. What every operation leaves alone: the environment (R9, R15, R21). -/

namespace Sys2Proof.Machine

/-- An operation that answers at all answers `after`. -/
theorem exec_after {i : Instr} {s t : State} (h : exec i s = .next t) : exec i s = .next (after i s) := by
  rw [after_of_exec h, h]

/-- An operation leaves the fields of the environment as they are: the configuration, the inputs, the record
of the crossings, the stimulus list and the counter (R9, R15, R21). -/
structure SameEnvironment (t s : State) : Prop where
  cfg : t.cfg = s.cfg
  inp : t.inp = s.inp
  cross : t.cross = s.cross
  stim : t.stim = s.stim
  tick : t.tick = s.tick

theorem setInst_sameEnvironment (s : State) (p : ScrInst) (v : Scrambler) :
    SameEnvironment (s.setInst p v) s := by constructor <;> simp

theorem exec_sameEnvironment {i : Instr} {s t : State} (h : exec i s = .next t) : SameEnvironment t s := by
  cases i with
  | ebWrite r =>
    simp only [exec, execEbWrite] at h
    split at h
    next u hu =>
      obtain ⟨-, rfl⟩ := writeSlot_next hu
      cases h
      exact ⟨rfl, rfl, rfl, rfl, rfl⟩
    · cases h
    · cases h
  | cdcSync a => cases a <;> (cases h; exact ⟨rfl, rfl, rfl, rfl, rfl⟩)
  | alStepTimeout =>
    simp only [exec, execAlStepTimeout] at h
    cases h
    split <;> exact ⟨rfl, rfl, rfl, rfl, rfl⟩
  | ctlCodec =>
    simp only [exec, execCtlCodec] at h
    cases h
    split <;> exact ⟨rfl, rfl, rfl, rfl, rfl⟩
  | dec10Acq v =>
    simp only [exec, execDec10Acq] at h
    cases h
    rcases acquireStep_cases s v with ⟨_, h⟩ | ⟨_, _, h⟩ | h <;> rw [h] <;> exact ⟨rfl, rfl, rfl, rfl, rfl⟩
  | scrStop p | scrStart p | scrBubble p | ostStep p _ | scr8Com p _ | scr8Skp p _ | scr8Ctl p _
  | scr8Bypass p _ | scr8Data p _ | scr8Err p _ | scr128Data p _ | scr128Eieos p _ | scr128Skp p _
  | scr128Os p _ | scr128Err p _ => cases h; exact setInst_sameEnvironment s p _
  | _ => cases h; exact ⟨rfl, rfl, rfl, rfl, rfl⟩

/-- Settles O8: every operation by its own case. -/
theorem operationsLeaveEnvironment : Obligations.OperationsLeaveEnvironment := fun _ _ _ h =>
  have e := exec_sameEnvironment h
  ⟨e.cfg, e.inp, e.cross, e.stim, e.tick⟩

end Sys2Proof.Machine
end

section
/-! PROOF. One RX edge as one simultaneous update of the state before it (R119; log entries 10 and 14). -/

namespace Sys2Proof.Machine

-- The operations that state one effect twice (log entry 14): the second time changes nothing

/-- `RXCMD.REALIGN` after the aligner's own reset. -/
theorem realign_again {n s : State} (hraw : s.raw = n.raw) (hal : s.al = (afterAll (selectAlign n) n).al) :
    runOps (if n.commanded 0 then [.rxcmdRealign] else []) s = .next s := by
  split
  next h =>
    have hreset : s.al = { Aligner.init with prev := s.raw } := by
      rw [hal, hraw]; simp only [selectAlign, h]; rfl
    have hsame : s.realign = s := by rw [State.realign, ← hreset]; rfl
    rw [runOps_cons_next (t := s.realign) rfl, hsame, runOps_nil]
  · rfl

/-- `RXCMD.FLUSH` after `EB.FLUSHW`. -/
theorem flush_again {n s : State} (hebw : s.ebw = (after (selectWrite n) n).ebw) :
    runOps (if n.commanded 1 then [.rxcmdFlush] else []) s = .next s := by
  split
  next h =>
    have hflushed : s.ebw = n.flushWrite.ebw := by
      rw [hebw]; simp only [selectWrite, h]; rfl
    have hsame : s.flushWrite = s := by
      have hv : { s.ebw with wptr := 0, ovf := false, delPending := false } = s.ebw := by
        rw [hflushed]; rfl
      rw [State.flushWrite, hv]; rfl
    rw [runOps_cons_next (t := s.flushWrite) rfl, hsame, runOps_nil]
  · rfl

/-- `RXCMD.DECRESET` after `DEC.RESET`. -/
theorem decreset_again {n s : State} (hdec : s.dec = (after (selectDecode n) n).dec)
    (hcodec : s.rcfgCodec = (after (selectDecode n) n).rcfgCodec) :
    runOps (if n.commanded 2 then [.rxcmdDecreset (Codec.ofBit (n.sampleCmd.getLsbD 3))] else []) s =
      .next s := by
  split
  next h =>
    have hsel : selectDecode n = .decReset := by simp only [selectDecode, h]; rfl
    have hreset : s.dec = n.resetDecoder.dec := by rw [hdec, hsel]; rfl
    have hload : s.rcfgCodec = Codec.ofBit (n.sampleCmd.getLsbD 3) := by rw [hcodec, hsel]; rfl
    have hsame : s.resetDecoder.setRcfgCodec (Codec.ofBit (n.sampleCmd.getLsbD 3)) = s := by
      have hv : { s.dec with rd := .minus, rdKnown := false, outValid := false } = s.dec := by
        rw [hreset]; rfl
      rw [State.resetDecoder, hv, ← hload]; rfl
    rw [runOps_cons_next (t := s.resetDecoder.setRcfgCodec _) rfl, hsame, runOps_nil]
  · rfl

-- What the selected operations leave alone beside their own registers

/-- The write side's operation does not touch the synchroniser of the read pointer. -/
theorem selectWrite_rgrayW1 (n : State) : (after (selectWrite n) n).ebw.rgrayW1 = n.ebw.rgrayW1 := by
  unfold selectWrite
  split
  · rfl
  · split
    · split
      · rfl
      · split
        · rfl
        · have hd : 0 < n.cfg.bufferDepth := by omega
          simp only [after, exec, execEbWrite_eq hd]; rfl
    · rfl

/-- The codec bit changes only under a commanded decoder reset (R235). -/
theorem selectDecode_rcfgCodec (n : State) :
    (after (selectDecode n) n).rcfgCodec =
      if n.commanded 2 then Codec.ofBit (n.sampleCmd.getLsbD 3) else n.rcfgCodec := by
  have hacq : ∀ v, (n.acquireStep v).rcfgCodec = n.rcfgCodec := fun v => by
    rcases acquireStep_cases n v with ⟨_, h⟩ | ⟨_, _, h⟩ | h <;> rw [h] <;> rfl
  unfold selectDecode selectDec10 selectDec130
  split
  · rfl
  · split
    · split
      · split
        · split
          · rfl
          · split <;> rfl
        · exact hacq _
      · split
        · rfl
        · split
          · rfl
          · split <;> rfl
    · rfl

/-- The state an RX edge leads to, every component from the values before the edge. -/
def State.afterRx (s : State) : State :=
  { s with
    mem := (after (selectWrite s) s).mem
    ebw := { (after (selectWrite s) s).ebw with rgrayW1 := s.sampleRgray, rgrayW2 := s.ebw.rgrayW1 }
    al := (afterAll (selectAlign s) s).al
    dec := (after (selectDecode s) s).dec
    rcfgCodec := if s.commanded 2 then Codec.ofBit (s.sampleCmd.getLsbD 3) else s.rcfgCodec
    cdcRx := { reqR1 := s.sampleReq, reqR2 := s.cdcRx.reqR1, ack := s.cdcRx.reqR2 }
    cross := crossAfterRx s }

/-- The bridge closes the edge, whatever the other components have been given (R228, R231). -/
theorem bridge_closes (s : State) (m : Memory) (w : WriteSide) (a : Aligner) (d : Decoder) (c : Codec) :
    runOps [.cdcAck, .cdcSync .rx] (((((s.setMem m).setEbw w).setAl a).setDec d).setRcfgCodec c) = .next
      { s with
        mem := m, al := a, dec := d, rcfgCodec := c
        ebw := { w with rgrayW1 := s.sampleRgray, rgrayW2 := w.rgrayW1 }
        cdcRx := { reqR1 := s.sampleReq, reqR2 := s.cdcRx.reqR1, ack := s.cdcRx.reqR2 } } := rfl

/-- The RX edge, its operations performed one after another, is the simultaneous update. -/
theorem rxEdge_eq (s : State) : rxEdge s = .next s.afterRx := by
  unfold rxEdge edgeOps selectRx
  simp only [List.append_assoc, List.cons_append, List.nil_append]
  rw [runOps_cons_next (write_local (n := s) rfl rfl rfl),
    runOps_append_next (align_local (n := s) ?_ ?_ ?_ ?_),
    runOps_append_next (realign_again (n := s) ?_ ?_),
    runOps_append_next (flush_again (n := s) ?_),
    runOps_cons_next (decode_local (n := s) ?_ ?_ ?_),
    runOps_append_next (decreset_again (n := s) ?_ ?_), bridge_closes, selectDecode_rcfgCodec,
    selectWrite_rgrayW1]
  · rfl
  all_goals rfl

/-- Settles O11: the components of `State.afterRx` one by one. -/
theorem rxEdgeIsSimultaneous : Obligations.RxEdgeIsSimultaneous := by
  intro s t h
  obtain rfl : s.afterRx = t := by rw [rxEdge_eq] at h; cases h; rfl
  exact ⟨⟨_, exec_after (write_local rfl rfl rfl), rfl, rfl⟩, ⟨_, align_local rfl rfl rfl rfl, rfl⟩,
    ⟨_, exec_after (decode_local rfl rfl rfl), rfl⟩, rfl, rfl⟩

end Sys2Proof.Machine
end

section
/-! PROOF. One CORE edge as one simultaneous update of the state whose wires carry the pins (R119; log entries 10,
13, 14 and 16). -/

namespace Sys2Proof.Machine

-- Locality of the operations that Laws/Local.lean does not speak of

/-- The debounce counter. -/
theorem debounce_local {n s : State} (hc : s.cfg = n.cfg) (hi : s.idl = n.idl) (hs : s.sync = n.sync) :
    exec .idlDebounce s = .next (s.setIdl (after .idlDebounce n).idl) := by
  simp only [after, exec, execIdlDebounce, hc, hi, hs, setIdl_idl]

/-- The codec bit of Link Configuration. -/
theorem codec_local {n s : State} (hc : s.cfg = n.cfg) (hl : s.lc = n.lc) (hq : s.ctl.state = n.ctl.state) :
    exec .ctlCodec s = .next (s.setLc { n.lc with codec := (after .ctlCodec n).lc.codec }) := by
  have hwant : s.want = n.want := by simp only [State.want, hc, hl]
  simp only [after, exec, execCtlCodec, hq, hl, hwant]
  split
  · rfl
  · simp only [← hl]; rfl

/-- The state operations of the controller: what cases 2 to 6 of its dispatch select (R315). -/
def isStateOperation : Instr → Bool
  | .ctlTransitionClose | .ctlTransitionDone | .ctlResetReq | .ctlResetDone | .ctlDetectOk | .ctlAlignOk
  | .ctlConfigureOk | .ctlPowerdown | .ctlIdleAck | .ctlPowerup | .ctlIdleChange | .ctlRate _ | .ctlFatal _
  | .ctlTimeout | .ctlStay => true
  | _ => false

theorem selectExit_isStateOperation (n : State) : isStateOperation (selectExit n) = true := by
  unfold selectExit
  cases n.ctl.state with
  | reset =>
    dsimp only
    split
    · rfl
    · split <;> rfl
  | idle =>
    dsimp only
    split
    · rfl
    · split
      · rfl
      · split <;> rfl
  | transition => rfl
  | detect | align | configure | active => dsimp only; split <;> rfl

theorem selectCtl_isStateOperation (n : State) : isStateOperation (selectCtl n) = true := by
  unfold selectCtl
  split
  · split
    · split <;> rfl
    · rfl
  · split
    · rfl
    · split
      · rfl
      · split
        · rfl
        · exact selectExit_isStateOperation n

/-- A state operation reads neither the run counters nor the codec bit, and replaces the controller's
registers, Link Configuration and the request alone. -/
theorem stateOperation_local {i : Instr} (hi : isStateOperation i = true) {n s : State} {err loss : Nat}
    {k : Codec} (hc : s.cfg = n.cfg) (hw : s.net = n.net) (hr : s.cdc = n.cdc)
    (hctl : s.ctl = { n.ctl with errRun := err, lossRun := loss }) (hlc : s.lc = { n.lc with codec := k }) :
    exec i s = .next (((s.setCtl { (after i n).ctl with errRun := err, lossRun := loss }).setLc
      { (after i n).lc with codec := k }).setCdc (after i n).cdc) := by
  cases s
  simp only at hc hw hr hctl hlc
  subst hc hw hr hctl hlc
  cases i with
  | ctlTransitionDone =>
    cases h : n.ctl.causeIsRate <;>
      simp only [after, exec, execCtlTransitionDone, State.finishTransition, clearPulse_eq, setCtl_ctl,
        setCtl_lc, h] <;> rfl
  | ctlTransitionClose | ctlResetReq | ctlResetDone | ctlDetectOk | ctlAlignOk | ctlConfigureOk
  | ctlPowerdown | ctlIdleAck | ctlPowerup | ctlIdleChange | ctlRate _ | ctlFatal _ | ctlTimeout
  | ctlStay => rfl
  | _ => cases hi

/-- `CDC.REQ` beside the state operation that raises the request (R230, log entry 14): the second time
changes nothing. -/
theorem request_again {n s : State} (hr : s.cdc = (after (selectCtl n) n).cdc) :
    runOps (selectReq n) s = .next s := by
  have hsame : ∀ cmd, s.cdc = { req := true, cmd := cmd } → runOps [.cdcReq cmd] s = .next s := by
    intro cmd hcdc
    rw [runOps_cons_next (t := s.raiseRequest cmd) rfl, runOps_nil, raiseRequest_eq, ← hcdc]
    rfl
  unfold selectReq
  split
  next h => exact hsame _ (by rw [hr, h]; rfl)
  next h => exact hsame _ (by rw [hr, h]; rfl)
  · rfl

/-- The state a CORE edge without hard reset leads to, every component from the state whose wires carry the
pins. -/
def State.afterCore (n : State) : State :=
  { n with
    ctl := { (after (selectCtl n) n).ctl with
      errRun := n.errRunNext, lossRun := n.lossRunNext
      timer := (after (.ctlTick n.ctl.state) (after (selectCtl n) n)).ctl.timer
      phyStatus := (after (selectCtl n) n).ctl.phyStatus || decide (selectRxd n = [.rxdDone]) }
    lc := { (after (selectCtl n) n).lc with codec := (after .ctlCodec n).lc.codec }
    cdc := (after (selectCtl n) n).cdc
    pa := { (after (.paRxmap n.dsc.outValid n.dsc.out) n).pa with rxStatus := (after .paStatus n).pa.rxStatus }
    enc := (after (selectEncode n) n).enc
    scr := (afterAll (selectScr n .scr) n).scr
    dsc := (afterAll (selectScr n .dsc) n).dsc
    ebr := (after (selectRead n) n).ebr
    idl := (after .idlDebounce n).idl
    rxd := (afterAll (selectRxd n) n).rxd
    sync := n.syncCore.sync
    cross := crossAfterCore n }

/-- The run counters and the adapter come first, from the state before the edge. -/
theorem core_opens (n : State) (rest : List Instr) :
    runOps (.ctlMonitor :: .paStatus :: .paRxmap n.dsc.outValid n.dsc.out :: rest) n =
      runOps rest ((n.setCtl { n.ctl with errRun := n.errRunNext, lossRun := n.lossRunNext }).setPa
        { (after (.paRxmap n.dsc.outValid n.dsc.out) n).pa with
          rxStatus := (after .paStatus n).pa.rxStatus }) := rfl

/-- The synchronisers sample the crossing sources, which no operation of this agent writes (R228). -/
theorem syncCore_local {n s : State} (hx : s.cross = n.cross) (hi : s.inp = n.inp) (hs : s.sync = n.sync)
    (ha : s.cdcRx = n.cdcRx) (hw : s.ebw = n.ebw) (hl : s.al = n.al) :
    s.syncCore = s.setSync n.syncCore.sync := by
  simp only [syncCore_eq, setSync_sync, State.sampleAck, State.sampleWgray, State.sampleLocked,
    State.sampleOvf, State.sampleSigdet, hx, hi, hs, ha, hw, hl]

/-- `CTL.TICK` right after the controller's registers have been given. -/
theorem tick_setCtl (s : State) (c : Ctl) (before : CtlState) :
    exec (.ctlTick before) (s.setCtl c) = .next (s.setCtl
      { c with timer := if c.state = before ∧ waits before then c.timer + 1 else 0 }) := rfl

/-- The components that the operations of a CORE edge have given, gathered in one update. -/
theorem core_gathers (n : State) (c0 c1 c : Ctl) (p : Adapter) (e : Encoder) (v w : Scrambler)
    (r : ReadSide) (d : Idle) (l0 l : LinkConfig) (q : CdcCore) (x : RxDetect) (y : Sync) :
    ((((((((((((((n.setCtl c0).setPa p).setEnc e).setInst .scr v).setInst .dsc w).setEbr r).setIdl d).setLc
        l0).setCtl c1).setLc l).setCdc q).setRxd x).setCtl c).setSync y) =
      { n with
        pa := p, enc := e, scr := v, dsc := w, ebr := r, idl := d, lc := l, cdc := q, rxd := x, ctl := c
        sync := y } := by
  cases n
  rfl

/-- The operations of a CORE edge, performed one after another, are the simultaneous update. -/
theorem edgeOps_selectCore (n : State) : edgeOps (selectCore n) (crossAfterCore n) n = .next n.afterCore := by
  unfold edgeOps selectCore
  simp only [List.append_assoc, List.cons_append, List.nil_append]
  rw [core_opens, runOps_cons_next (encode_local (n := n) ?_),
    runOps_append_next (scramble_local (n := n) (p := .scr) ?_ ?_ ?_),
    runOps_append_next (scramble_local (n := n) (p := .dsc) ?_ ?_ ?_),
    runOps_cons_next (read_local (n := n) ?_ ?_ ?_), runOps_cons_next (debounce_local (n := n) ?_ ?_ ?_),
    runOps_cons_next (codec_local (n := n) ?_ ?_ ?_),
    runOps_cons_next (stateOperation_local (n := n) (err := n.errRunNext) (loss := n.lossRunNext)
      (k := (after .ctlCodec n).lc.codec) (selectCtl_isStateOperation n) ?_ ?_ ?_ ?_ ?_),
    runOps_append_next (request_again (n := n) ?_), runOps_append_next (rxd_local (n := n) ?_ ?_),
    runOps_cons_next (tick_setCtl _ _ _), runOps_cons_next (i := .cdcSync .core) rfl, runOps_nil,
    syncCore_local (n := n) ?_ ?_ ?_ ?_ ?_ ?_, core_gathers]
  · simp only [setCdc_ctl, setLc_ctl, setCtl_ctl]
    rfl
  all_goals simp

/-- The state whose wires carry the pins of the edge (R343, R344). -/
def State.wired (s : State) : State := afterAll (selectNets s) s

/-- The wire operations always answer. -/
theorem runOps_selectNets (s : State) : runOps (selectNets s) s = .next s.wired := rfl

/-- A CORE edge without hard reset: the wires, then the simultaneous update. -/
theorem coreEdge_run {s : State} (h : s.inp.mac.resetN = true) :
    coreEdge s = .next s.wired.afterCore := by
  simp only [coreEdge, h, if_true, runOps_selectNets, edgeOps_selectCore]

/-- A CORE edge under a hard reset (R402). -/
theorem coreEdge_hardReset {s : State} (h : s.inp.mac.resetN = false) :
    coreEdge s = .next (s.hardReset.syncCore.setCross (crossAfterCore s)) := by
  simp only [coreEdge, h, Bool.false_eq_true, if_false]
  rfl

/-- Settles O12: the components of `State.afterCore` one by one. -/
theorem coreEdgeIsSimultaneous : Obligations.CoreEdgeIsSimultaneous := by
  intro s t hreset h
  obtain rfl : s.wired.afterCore = t := by rw [coreEdge_run hreset] at h; cases h; rfl
  have hstate : exec (selectCtl s.wired) s.wired = .next (after (selectCtl s.wired) s.wired) :=
    exec_after (stateOperation_local (selectCtl_isStateOperation s.wired) rfl rfl rfl rfl rfl)
  exact ⟨s.wired, runOps_selectNets s, ⟨_, exec_after (encode_local rfl), rfl⟩,
    ⟨_, scramble_local rfl rfl rfl, rfl⟩, ⟨_, scramble_local rfl rfl rfl, rfl⟩,
    ⟨_, exec_after (read_local rfl rfl rfl), rfl⟩, ⟨_, exec_after (debounce_local rfl rfl rfl), rfl⟩,
    ⟨_, rxd_local rfl rfl, rfl⟩, ⟨_, rfl, rfl, rfl, rfl⟩, ⟨_, rfl, rfl⟩, ⟨_, rfl, rfl⟩,
    ⟨_, _, _, _, rfl, rfl, hstate, rfl, rfl, rfl, rfl⟩⟩

end Sys2Proof.Machine
end

section
/-! PROOF. A step, from its edge: what it performs, that it answers, and whose registers it leaves alone. -/

namespace Sys2Proof.Machine

/-- Every edge of either agent answers, whatever the registers, the inputs and the configuration (R16). -/
theorem edge_answers (a : Agent) (s : State) : ∃ t, edge a s = .next t := by
  cases a with
  | rx => exact ⟨_, rxEdge_eq s⟩
  | core =>
    cases h : s.inp.mac.resetN with
    | true => exact ⟨_, coreEdge_run h⟩
    | false => exact ⟨_, coreEdge_hardReset h⟩

/-- A step under a legal configuration is the next edge. -/
theorem step_legal {s : State} (h : s.cfg.legal = true) :
    step s = edge s.nextStimulus.agent (s.consume.present s.nextStimulus) := by
  simp only [step, stepEdge, h, if_true]

/-- A step under an illegal configuration is refused (R423). -/
theorem step_illegal {s : State} (h : s.cfg.legal = false) : step s = .refused .illegalConfig := by
  simp only [step, stepEdge, h, Bool.false_eq_true, if_false]

/-- A step that uses up a listed line is that line's edge. -/
theorem step_line {s : State} {st : Stimulus} {rest : List Stimulus} (hc : s.cfg.legal = true)
    (hs : s.stim = st :: rest) : step s = edge st.agent ((s.setStim rest).present st) := by
  rw [step_legal hc, State.nextStimulus, State.consume, hs]

/-- Settles O1: the step of a listed line is its edge, and the edge performs what it selects. -/
theorem stepRunsSelectedOperations : Obligations.StepRunsSelectedOperations := by
  refine ⟨fun s w ch rest hc hs => step_line hc hs, fun s i ch rest hc hs => ⟨fun hr => ?_, fun hr t ht => ?_⟩,
    fun i rest s t h => runOps_cons_next h rest, runOps_nil⟩
  · rw [step_line hc hs]
    simp only [edge, coreEdge, Stimulus.agent, hr, Bool.false_eq_true, if_false, selectHardReset]
  · rw [step_line hc hs]
    simp only [edge, coreEdge, Stimulus.agent, hr, if_true, ht]

/-- Settles O3: a step is an edge, and every edge answers. -/
theorem stepAlwaysAnswers : Obligations.StepAlwaysAnswers := by
  refine ⟨fun s h => ?_, fun s h => step_illegal h⟩
  rw [step_legal h]
  exact edge_answers _ _

/-- Settles O10: the updates of the two edges name no register of the other domain. -/
theorem agentsWriteOwnDomains : Obligations.AgentsWriteOwnDomains := by
  constructor
  · intro s t h
    rw [rxEdge_eq] at h
    cases h
    exact ⟨rfl, rfl, rfl, rfl, rfl, rfl, rfl, rfl, rfl, rfl, rfl, rfl, rfl⟩
  · intro s t h
    cases hr : s.inp.mac.resetN with
    | true =>
      rw [coreEdge_run hr] at h
      cases h
      exact ⟨rfl, rfl, rfl, rfl, rfl, rfl, rfl⟩
    | false =>
      rw [coreEdge_hardReset hr] at h
      cases h
      exact ⟨rfl, rfl, rfl, rfl, rfl, rfl, rfl⟩

end Sys2Proof.Machine
end

section
/-! PROOF. The slot array: canonical arrays with equal contents are equal. -/

namespace Sys2Proof.Machine

theorem Memory.read_head (a : Nat) (v : Slot) (rest : Memory) : Memory.read ((a, v) :: rest) a = v := by
  simp [Memory.read]

theorem Memory.read_tail {a i : Nat} (h : a ≠ i) (v : Slot) (rest : Memory) :
    Memory.read ((a, v) :: rest) i = Memory.read rest i := by simp [Memory.read, h]

/-- An index below the head of a canonical array reads as blank. -/
theorem Memory.read_below_head {lo : Option Nat} {a i : Nat} {v : Slot} {rest : Memory} (hi : i < a)
    (h : Memory.wfFrom lo ((a, v) :: rest) = true) : Memory.read ((a, v) :: rest) i = .blank := by
  rw [read_tail (by omega), read_below hi.le (wfFrom_cons.1 h).2.2]

/-- A canonical array with an entry differs somewhere from the empty one. -/
theorem Memory.read_head_ne_blank {lo : Option Nat} {a : Nat} {v : Slot} {rest : Memory}
    (h : Memory.wfFrom lo ((a, v) :: rest) = true) : Memory.read ((a, v) :: rest) a ≠ .blank := by
  rw [read_head]
  exact (wfFrom_cons.1 h).2.1

/-- Extensionality of canonical arrays: the heads are the lowest indices that do not read as blank. -/
theorem Memory.read_ext : ∀ {m n : Memory} {lo lo' : Option Nat}, Memory.wfFrom lo m = true →
    Memory.wfFrom lo' n = true → (∀ i, m.read i = n.read i) → m = n
  | [], [], _, _, _, _, _ => rfl
  | [], (b, w) :: _, _, _, _, hn, heq => absurd (heq b).symm (read_head_ne_blank hn)
  | (a, v) :: _, [], _, _, hm, _, heq => absurd (heq a) (read_head_ne_blank hm)
  | (a, v) :: m, (b, w) :: n, _, _, hm, hn, heq => by
    rcases lt_trichotomy a b with hab | rfl | hba
    · exact absurd ((heq a).trans (read_below_head hab hn)) (read_head_ne_blank hm)
    · obtain ⟨-, -, hmt⟩ := wfFrom_cons.1 hm
      obtain ⟨-, -, hnt⟩ := wfFrom_cons.1 hn
      have hvw : v = w := by simpa only [read_head] using heq a
      have htail : ∀ i, Memory.read m i = Memory.read n i := fun i => by
        by_cases hi : a = i
        · rw [← hi, read_below le_rfl hmt, read_below le_rfl hnt]
        · simpa only [read_tail hi] using heq i
      rw [hvw, read_ext hmt hnt htail]
    · exact absurd ((heq b).symm.trans (read_below_head hba hm)) (read_head_ne_blank hn)

/-- Settles O22: `Memory.read_ext` without a lower bound. -/
theorem canonicalMemoriesEqual : Obligations.CanonicalMemoriesEqual :=
  fun _ _ hm hn h => Memory.read_ext (lo := none) (lo' := none) hm hn h

end Sys2Proof.Machine
end

section
/-! PROOF. Power-up (R400): the values of R26 to R39. -/

namespace Sys2Proof.Machine

/-- Settles O7: each value is a field of `State.resetWith`. -/
theorem powerUpValues : Obligations.PowerUpValues := by
  intro c s
  repeat' apply And.intro
  all_goals rfl

end Sys2Proof.Machine
end

section
/-! PROOF. Each register group has the writers the spec names (R24 to R39). -/

namespace Sys2Proof.Machine

/-- Where operation `i` leads from `s` to `t`, it is among the writers of each register group that changed. -/
structure WritersNamed (i : Instr) (s t : State) : Prop where
  al : t.al ≠ s.al → i.rowNumber ∈ [3, 6, 7, 8, 9, 10, 11]
  dec : t.dec ≠ s.dec → i.rowNumber = 5 ∨ 12 ≤ i.rowNumber ∧ i.rowNumber ≤ 21
  rcfgCodec : t.rcfgCodec ≠ s.rcfgCodec → i = .decReset ∨ ∃ c, i = .rxcmdDecreset c
  mem : t.mem ≠ s.mem → ∃ r, i = .ebWrite r
  sync : t.sync ≠ s.sync → i = .cdcSync .core
  idl : t.idl ≠ s.idl → i = .idlDebounce ∨ i = .ctlHardreset
  lc : t.lc ≠ s.lc → (∃ cmd, i = .cdcReq cmd) ∨ 59 ≤ i.rowNumber ∧ i.rowNumber ≤ 77
  cdc : t.cdc ≠ s.cdc → (∃ cmd, i = .cdcReq cmd) ∨ 59 ≤ i.rowNumber ∧ i.rowNumber ≤ 77
  rxd : t.rxd ≠ s.rxd → i = .rxdDone ∨ i = .rxdClear ∨ i = .rxdStart ∨ i = .ctlHardreset
  pa : t.pa ≠ s.pa → i = .paStatus ∨ i = .ctlHardreset ∨ ∃ v r, i = .paRxmap v r
  enc : t.enc ≠ s.enc → i = .ctlHardreset ∨ 48 ≤ i.rowNumber ∧ i.rowNumber ≤ 54
  ebw : t.ebw ≠ s.ebw → i = .cdcSync .rx ∨ i = .rxcmdFlush ∨ 22 ≤ i.rowNumber ∧ i.rowNumber ≤ 25
  ebr : t.ebr ≠ s.ebr → i = .ctlHardreset ∨ 27 ≤ i.rowNumber ∧ i.rowNumber ≤ 32
  scr : t.scr ≠ s.scr → i = .ctlHardreset ∨ 33 ≤ i.rowNumber ∧ i.rowNumber ≤ 47
  dsc : t.dsc ≠ s.dsc → i = .ctlHardreset ∨ 33 ≤ i.rowNumber ∧ i.rowNumber ≤ 47
  cdcRx : t.cdcRx ≠ s.cdcRx → i = .cdcSync .rx ∨ i = .cdcAck
  ctl : t.ctl ≠ s.ctl → i = .rxdDone ∨ 59 ≤ i.rowNumber ∧ i.rowNumber ≤ 77
  net : t.net ≠ s.net → (∃ d k e, i = .paTxmap d k e) ∨ ∃ pins, i = .paCmdmap pins

namespace WritersNamed

variable {i : Instr} {s t : State}

theorem refl (i : Instr) (s : State) : WritersNamed i s s := by
  constructor <;> exact fun h => absurd rfl h

theorem setAl (h : WritersNamed i s t) (v : Aligner) (hi : i.rowNumber ∈ [3, 6, 7, 8, 9, 10, 11]) :
    WritersNamed i s (t.setAl v) := { h with al := fun _ => hi }

theorem setDec (h : WritersNamed i s t) (v : Decoder)
    (hi : i.rowNumber = 5 ∨ 12 ≤ i.rowNumber ∧ i.rowNumber ≤ 21) : WritersNamed i s (t.setDec v) :=
  { h with dec := fun _ => hi }

theorem setRcfgCodec (h : WritersNamed i s t) (v : Codec) (hi : i = .decReset ∨ ∃ c, i = .rxcmdDecreset c) :
    WritersNamed i s (t.setRcfgCodec v) := { h with rcfgCodec := fun _ => hi }

theorem setIdl (h : WritersNamed i s t) (v : Idle) (hi : i = .idlDebounce ∨ i = .ctlHardreset) :
    WritersNamed i s (t.setIdl v) := { h with idl := fun _ => hi }

theorem setLc (h : WritersNamed i s t) (v : LinkConfig) (hi : 59 ≤ i.rowNumber ∧ i.rowNumber ≤ 77) :
    WritersNamed i s (t.setLc v) := { h with lc := fun _ => .inr hi }

theorem setCdc (h : WritersNamed i s t) (v : CdcCore)
    (hi : (∃ cmd, i = .cdcReq cmd) ∨ 59 ≤ i.rowNumber ∧ i.rowNumber ≤ 77) : WritersNamed i s (t.setCdc v) :=
  { h with cdc := fun _ => hi }

theorem setRxd (h : WritersNamed i s t) (v : RxDetect)
    (hi : i = .rxdDone ∨ i = .rxdClear ∨ i = .rxdStart ∨ i = .ctlHardreset) : WritersNamed i s (t.setRxd v) :=
  { h with rxd := fun _ => hi }

theorem setPa (h : WritersNamed i s t) (v : Adapter)
    (hi : i = .paStatus ∨ i = .ctlHardreset ∨ ∃ v r, i = .paRxmap v r) : WritersNamed i s (t.setPa v) :=
  { h with pa := fun _ => hi }

theorem setEnc (h : WritersNamed i s t) (v : Encoder)
    (hi : i = .ctlHardreset ∨ 48 ≤ i.rowNumber ∧ i.rowNumber ≤ 54) : WritersNamed i s (t.setEnc v) :=
  { h with enc := fun _ => hi }

theorem setEbw (h : WritersNamed i s t) (v : WriteSide)
    (hi : i = .cdcSync .rx ∨ i = .rxcmdFlush ∨ 22 ≤ i.rowNumber ∧ i.rowNumber ≤ 25) :
    WritersNamed i s (t.setEbw v) := { h with ebw := fun _ => hi }

theorem setEbr (h : WritersNamed i s t) (v : ReadSide)
    (hi : i = .ctlHardreset ∨ 27 ≤ i.rowNumber ∧ i.rowNumber ≤ 32) : WritersNamed i s (t.setEbr v) :=
  { h with ebr := fun _ => hi }

theorem setInst (h : WritersNamed i s t) (p : ScrInst) (v : Scrambler)
    (hi : i = .ctlHardreset ∨ 33 ≤ i.rowNumber ∧ i.rowNumber ≤ 47) : WritersNamed i s (t.setInst p v) := by
  cases p with
  | scr => exact { h with scr := fun _ => hi }
  | dsc => exact { h with dsc := fun _ => hi }

theorem setCdcRx (h : WritersNamed i s t) (v : CdcRx) (hi : i = .cdcSync .rx ∨ i = .cdcAck) :
    WritersNamed i s (t.setCdcRx v) := { h with cdcRx := fun _ => hi }

theorem setCtl (h : WritersNamed i s t) (v : Ctl)
    (hi : i = .rxdDone ∨ 59 ≤ i.rowNumber ∧ i.rowNumber ≤ 77) : WritersNamed i s (t.setCtl v) :=
  { h with ctl := fun _ => hi }

theorem setNet (h : WritersNamed i s t) (v : Nets)
    (hi : (∃ d k e, i = .paTxmap d k e) ∨ ∃ pins, i = .paCmdmap pins) : WritersNamed i s (t.setNet v) :=
  { h with net := fun _ => hi }

end WritersNamed

/-- The aligner's step writes the aligner alone. -/
theorem exec_alStepTimeout_eq (s : State) : ∃ v, exec .alStepTimeout s = .next (s.setAl v) := by
  simp only [exec, execAlStepTimeout]
  split
  · exact ⟨_, rfl⟩
  · exact ⟨s.al, rfl⟩

/-- `DEC10.ACQ` writes the decoder alone. -/
theorem acquireStep_eq_setDec (s : State) (v : Line10) : ∃ d, s.acquireStep v = s.setDec d := by
  rcases acquireStep_cases s v with ⟨_, h⟩ | ⟨_, _, h⟩ | h <;> exact ⟨_, h⟩

/-- `CTL.CODEC` writes Link Configuration alone. -/
theorem exec_ctlCodec_eq (s : State) : ∃ v, exec .ctlCodec s = .next (s.setLc v) := by
  simp only [exec, execCtlCodec]
  split
  · exact ⟨_, rfl⟩
  · exact ⟨s.lc, rfl⟩

/-- The return from TRANSITION writes the controller and Link Configuration. -/
theorem finishTransition_eq (s : State) : ∃ l c, s.finishTransition = (s.setLc l).setCtl c := ⟨_, _, rfl⟩

/-- `EB.WRITE` writes the slot array and the write side. -/
theorem exec_ebWrite_inv {r : SymRec} {s t : State} (h : exec (.ebWrite r) s = .next t) :
    ∃ m w, t = (s.setMem m).setEbw w := by
  simp only [exec, execEbWrite] at h
  split at h
  next u hu =>
    obtain ⟨-, rfl⟩ := writeSlot_next hu
    cases h
    exact ⟨_, _, rfl⟩
  · cases h
  · cases h

/-- The hard reset may write every register group of the `core_clk` domain but the synchronisers. -/
theorem hardReset_writersNamed (s : State) : WritersNamed .ctlHardreset s s.hardReset :=
  { WritersNamed.refl _ s with
    ctl := fun _ => by simp [Instr.rowNumber]
    lc := fun _ => by simp [Instr.rowNumber]
    cdc := fun _ => by simp [Instr.rowNumber]
    idl := fun _ => .inr rfl
    ebr := fun _ => .inl rfl
    scr := fun _ => .inl rfl
    dsc := fun _ => .inl rfl
    enc := fun _ => .inl rfl
    pa := fun _ => .inr (.inl rfl)
    rxd := fun _ => .inr (.inr (.inr rfl)) }

theorem exec_writersNamed {i : Instr} {s t : State} (h : exec i s = .next t) : WritersNamed i s t := by
  have start := WritersNamed.refl i s
  cases i with
  | cdcSync a =>
    cases a with
    | rx => cases h; exact (start.setCdcRx _ (.inl rfl)).setEbw _ (.inl rfl)
    | core => cases h; exact { start with sync := fun _ => rfl }
  | cdcAck => cases h; exact start.setCdcRx _ (.inr rfl)
  | cdcReq cmd => cases h; exact start.setCdc _ (.inl ⟨cmd, rfl⟩)
  | rxcmdFlush => cases h; exact start.setEbw _ (.inr (.inl rfl))
  | rxcmdDecreset c => cases h; exact (start.setDec _ (.inl rfl)).setRcfgCodec _ (.inr ⟨c, rfl⟩)
  | rxcmdRealign | alReset | alStepAcquire _ | alStepHit _ | alStepMiss _ | alStepNone _ =>
    cases h; exact start.setAl _ (by simp [Instr.rowNumber])
  | alStepTimeout =>
    obtain ⟨v, hv⟩ := exec_alStepTimeout_eq s
    cases hv.symm.trans h
    exact start.setAl v (by simp [Instr.rowNumber])
  | dec10Acq v =>
    obtain ⟨d, hd⟩ := acquireStep_eq_setDec s v
    simp only [exec, execDec10Acq, hd] at h
    cases h
    exact start.setDec d (by simp [Instr.rowNumber])
  | decReset => cases h; exact (start.setDec _ (by simp [Instr.rowNumber])).setRcfgCodec _ (.inl rfl)
  | dec10Ok _ | dec10Disp _ | dec10Code _ | decBubble | dec130D _ | dec130Os _ | dec130Badsync00 _
  | dec130Badsync11 _ => cases h; exact start.setDec _ (by simp [Instr.rowNumber])
  | ebWrite r =>
    obtain ⟨m, w, rfl⟩ := exec_ebWrite_inv h
    exact { start with mem := fun _ => ⟨r, rfl⟩, ebw := fun _ => by simp [Instr.rowNumber] }
  | ebFlushw | ebDelete _ | ebOverflow _ => cases h; exact start.setEbw _ (by simp [Instr.rowNumber])
  | ebIdlew => cases h; exact start
  | ebFlushr | ebPrime | ebStart | ebUnderflow | ebInsert _ | ebRead _ =>
    cases h; exact start.setEbr _ (by simp [Instr.rowNumber])
  | scrStop p | scrStart p | scrBubble p | ostStep p _ | scr8Com p _ | scr8Skp p _ | scr8Ctl p _
  | scr8Bypass p _ | scr8Data p _ | scr8Err p _ | scr128Data p _ | scr128Eieos p _ | scr128Skp p _
  | scr128Os p _ | scr128Err p _ => cases h; exact start.setInst p _ (by simp [Instr.rowNumber])
  | encReset | enc10D _ | enc10K _ | enc10Kinv _ | encBubble | enc130D _ | enc130Os _ =>
    cases h; exact start.setEnc _ (by simp [Instr.rowNumber])
  | idlDebounce => cases h; exact start.setIdl _ (.inl rfl)
  | rxdDone => cases h; exact (start.setCtl _ (.inl rfl)).setRxd _ (.inl rfl)
  | rxdClear => cases h; exact start.setRxd _ (.inr (.inl rfl))
  | rxdStart => cases h; exact start.setRxd _ (.inr (.inr (.inl rfl)))
  | ctlHardreset => cases h; exact hardReset_writersNamed s
  | ctlTransitionDone =>
    cases h
    obtain ⟨l, c, h⟩ := finishTransition_eq s.clearPulse
    rw [h]
    exact ((start.setCtl _ (by simp [Instr.rowNumber])).setLc l (by simp [Instr.rowNumber])).setCtl c
      (by simp [Instr.rowNumber])
  | ctlResetDone | ctlAlignOk | ctlConfigureOk | ctlIdleAck | ctlFatal _ | ctlTimeout | ctlTick _ | ctlMonitor
  | ctlStay => cases h; exact start.setCtl _ (by simp [Instr.rowNumber])
  | ctlTransitionClose | ctlResetReq =>
    cases h; exact (start.setCtl _ (by simp [Instr.rowNumber])).setCdc _ (by simp [Instr.rowNumber])
  | ctlDetectOk =>
    cases h; exact (start.setCdc _ (by simp [Instr.rowNumber])).setCtl _ (by simp [Instr.rowNumber])
  | ctlPowerdown =>
    cases h
    exact ((start.setLc _ (by simp [Instr.rowNumber])).setCdc _ (by simp [Instr.rowNumber])).setCtl _
      (by simp [Instr.rowNumber])
  | ctlPowerup =>
    cases h
    exact ((start.setCdc _ (by simp [Instr.rowNumber])).setLc _ (by simp [Instr.rowNumber])).setCtl _
      (by simp [Instr.rowNumber])
  | ctlIdleChange | ctlRate _ =>
    cases h; exact (start.setLc _ (by simp [Instr.rowNumber])).setCtl _ (by simp [Instr.rowNumber])
  | ctlCodec =>
    obtain ⟨v, hv⟩ := exec_ctlCodec_eq s
    cases hv.symm.trans h
    exact start.setLc v (by simp [Instr.rowNumber])
  | paRxmap v r => cases h; exact start.setPa _ (.inr (.inr ⟨v, r, rfl⟩))
  | paStatus => cases h; exact start.setPa _ (.inl rfl)
  | paTxmap d k e => cases h; exact start.setNet _ (.inl ⟨d, k, e, rfl⟩)
  | paCmdmap pins => cases h; exact start.setNet _ (.inr ⟨pins, rfl⟩)

/-- Settles O9: every operation by its own case. -/
theorem registersHaveOneOwner : Obligations.RegistersHaveOneOwner := fun _ _ _ h =>
  have w := exec_writersNamed h
  ⟨w.al, w.dec, w.rcfgCodec, w.mem, w.sync, w.idl, fun h => h.elim w.lc w.cdc, w.rxd, w.pa, w.enc, w.ebw, w.ebr,
    fun h => h.elim w.scr w.dsc, w.cdcRx, w.ctl, w.net⟩

end Sys2Proof.Machine
end

section
/-! PROOF. What the decoder delivers for a line symbol (R165 to R168, R187). -/

namespace Sys2Proof.Machine

/-- A line symbol in neither column selects an operation that delivers a code error. -/
theorem decode_neither_column {s : State} (hc : s.commanded 2 = false) (hv : s.al.outValid = true)
    (hk : s.rcfgCodec = .c8b10b) (hm : Code10.decCol .minus s.lineSymbol = none)
    (hp : Code10.decCol .plus s.lineSymbol = none) :
    (after (selectDecode s) s).dec.outValid = true ∧
      (after (selectDecode s) s).dec.out = SymRec.bad .code 0 := by
  have hcol : ∀ rd, Code10.decCol rd s.lineSymbol = none := fun rd => by cases rd <;> assumption
  cases hd : s.dec.rdKnown with
  | true =>
    have hsel : selectDecode s = .dec10Code s.lineSymbol := by
      simp [selectDecode, selectDec10, hc, hv, hk, hd, hcol]
    have hout : decodeKnown s.dec.rd s.lineSymbol = SymRec.bad .code 0 := by simp [decodeKnown, hcol]
    rw [hsel]
    exact ⟨rfl, hout⟩
  | false =>
    have hsel : selectDecode s = .dec10Acq s.lineSymbol := by
      simp [selectDecode, selectDec10, hc, hv, hk, hd]
    have hacq : s.acquireStep s.lineSymbol = s.setDec { s.dec with out := SymRec.bad .code 0, outValid := true } := by
      simp [State.acquireStep, hcol]
    have hafter : after (.dec10Acq s.lineSymbol) s = s.acquireStep s.lineSymbol := rfl
    rw [hsel, hafter, hacq]
    exact ⟨rfl, rfl⟩

/-- A line symbol in the other column only, with the disparity known, selects `DEC10.DISP`. -/
theorem decode_other_column {s : State} (hc : s.commanded 2 = false) (hv : s.al.outValid = true)
    (hk : s.rcfgCodec = .c8b10b) (hd : s.dec.rdKnown = true)
    (hown : Code10.decCol s.dec.rd s.lineSymbol = none) {kb : Bool × Byte}
    (hother : Code10.decCol (Code10.flip s.dec.rd) s.lineSymbol = some kb) :
    (after (selectDecode s) s).dec.outValid = true ∧
      (after (selectDecode s) s).dec.out = SymRec.bad .disp (kb.2.setWidth 128) := by
  have hsel : selectDecode s = .dec10Disp s.lineSymbol := by
    simp [selectDecode, selectDec10, hc, hv, hk, hd, hown, hother]
  have hout : decodeKnown s.dec.rd s.lineSymbol = SymRec.bad .disp (kb.2.setWidth 128) := by
    simp [decodeKnown, hown, hother]
  rw [hsel]
  exact ⟨rfl, hout⟩

/-- A block with a sync header of neither kind delivers a code error. -/
theorem decode_bad_header {s : State} (hc : s.commanded 2 = false) (hv : s.al.outValid = true)
    (hk : s.rcfgCodec = .c128b130b) (hb : s.al.outSym.sync = 0 ∨ s.al.outSym.sync = 3) :
    (after (selectDecode s) s).dec.outValid = true ∧
      (after (selectDecode s) s).dec.out = SymRec.bad .code 0 := by
  have hsel : selectDecode s = selectDec130 s.al.outSym := by simp [selectDecode, hc, hv, hk]
  rw [hsel]
  rcases hb with hb | hb
  · rw [show selectDec130 s.al.outSym = .dec130Badsync00 _ by simp only [selectDec130, hb]; rfl]
    exact ⟨rfl, rfl⟩
  · rw [show selectDec130 s.al.outSym = .dec130Badsync11 _ by simp only [selectDec130, hb]; rfl]
    exact ⟨rfl, rfl⟩

/-- Settles O31: the decoder's registers after an RX edge are those after the operation it selects. -/
theorem undecodableIsNeverData : Obligations.UndecodableIsNeverData := by
  intro s t h hc hv
  obtain rfl : s.afterRx = t := by rw [rxEdge_eq] at h; cases h; rfl
  have hdec : s.afterRx.dec = (after (selectDecode s) s).dec := rfl
  rw [hdec]
  refine ⟨fun hk hm hp => ?_, fun hk hb => ?_, fun hk hd hown hother => ?_⟩
  · obtain ⟨hvalid, hout⟩ := decode_neither_column hc hv hk hm hp
    rw [hout]
    exact ⟨hvalid, rfl, rfl, rfl⟩
  · obtain ⟨hvalid, hout⟩ := decode_bad_header hc hv hk hb
    rw [hout]
    exact ⟨hvalid, rfl, rfl, rfl⟩
  · obtain ⟨kb, hkb⟩ := Option.isSome_iff_exists.1 hother
    obtain ⟨hvalid, hout⟩ := decode_other_column hc hv hk hd hown hkb
    rw [hout]
    exact ⟨hvalid, rfl, rfl⟩

end Sys2Proof.Machine
end

section
/-! PROOF. What the two sides of the elastic buffer select, and what it writes (R198 to R211). -/

namespace Sys2Proof.Machine

/-- The operations the write side can select, each with its select condition (R198). -/
inductive WriteSelected (s : State) : Instr → Prop
  | flush : s.commanded 1 = true → WriteSelected s .ebFlushw
  | delete : s.commanded 1 = false → s.dec.outValid = true →
      isFiller s.dec.out.tag s.dec.out.data s.rcfgCodec = true → s.cfg.ebHigh ≤ s.fillW →
      s.fillW ≤ s.cfg.bufferDepth - 2 → WriteSelected s (.ebDelete s.dec.out)
  | overflow : s.commanded 1 = false → s.dec.outValid = true → s.cfg.bufferDepth ≤ s.fillW →
      WriteSelected s (.ebOverflow s.dec.out)
  | write : s.commanded 1 = false → s.dec.outValid = true → s.fillW < s.cfg.bufferDepth →
      WriteSelected s (.ebWrite s.dec.out)
  | idle : s.commanded 1 = false → s.dec.outValid = false → WriteSelected s .ebIdlew

theorem selectWrite_selected (s : State) : WriteSelected s (selectWrite s) := by
  unfold selectWrite
  split
  next hf => exact .flush hf
  next hf =>
    have hf := Bool.eq_false_iff.2 hf
    split
    next hv =>
      split
      next hd => exact .delete hf hv hd.1 hd.2.1 hd.2.2
      · split
        next ho => exact .overflow hf hv ho
        next ho => exact .write hf hv (by omega)
    next hv => exact .idle hf (Bool.eq_false_iff.2 hv)

/-- `EB.WRITE` where the slot array has a slot. -/
theorem after_ebWrite {s : State} (h : 0 < s.cfg.bufferDepth) (r : SymRec) :
    after (.ebWrite r) s =
      (s.setMem (s.mem.write (s.ebw.wptr % s.cfg.bufferDepth) (Slot.ofRec r s.ebw.delPending))).setEbw
        { s.ebw with wptr := s.nextPtr s.ebw.wptr, delPending := false } := after_of_exec (execEbWrite_eq h)

/-- The operations the read side can select, each with its select condition (R204). -/
inductive ReadSelected (s : State) : Instr → Prop
  | flush : s.cdc.req = true → s.cdc.cmd.getLsbD 1 = true → ReadSelected s .ebFlushr
  | prime : s.ebr.rdState = .held → ReadSelected s .ebPrime
  | start : s.ebr.rdState = .priming → ReadSelected s .ebStart
  | underflow : s.ebr.rdState = .running → s.fillR = 0 ∨ s.cfg.bufferDepth < s.fillR →
      ReadSelected s .ebUnderflow
  | insert : s.ebr.rdState = .running → isFiller s.head.tag s.head.data s.lc.codec = true →
      s.fillR ≤ s.cfg.ebLow → ReadSelected s (.ebInsert s.head)
  | read : s.ebr.rdState = .running → ReadSelected s (.ebRead s.head)

theorem selectRead_selected (s : State) : ReadSelected s (selectRead s) := by
  unfold selectRead
  split
  next hf =>
    obtain ⟨hreq, hcmd⟩ := Bool.and_eq_true_iff.1 hf
    exact .flush hreq hcmd
  · split
    next h => exact .prime h
    next h => exact .start h
    next h =>
      split
      next hu => exact .underflow h hu
      · split
        next hi => exact .insert h hi.1 hi.2
        · exact .read h

/-- The wire operations replace the wires alone, and the transmit record is one of the adapter's (R343, R344). -/
theorem wired_eq (s : State) : ∃ (w : Nets) (k : Bool) (d : Payload),
    s.wired = s.setNet { w with txRec := SymRec.good k d } := ⟨s.wired.net, _, _, rfl⟩

/-- The sticky flag OVERFLOW over the operation that the write side selects (R201, R202). -/
theorem write_overflow {s : State} {i : Instr} (h : WriteSelected s i) :
    (s.commanded 1 = false → s.ebw.ovf = true → (after i s).ebw.ovf = true) ∧
      (s.ebw.ovf = false → (after i s).ebw.ovf = true → i = .ebOverflow s.dec.out) := by
  cases h with
  | flush hf => exact ⟨fun hc _ => absurd hf (by simp [hc]), fun _ ht => Bool.noConfusion ht⟩
  | overflow => exact ⟨fun _ _ => rfl, fun _ _ => rfl⟩
  | write _ _ hfill =>
    rw [after_ebWrite (by omega)]
    exact ⟨fun _ ho => ho, fun ho ht => absurd (ho.symm.trans ht) (by simp)⟩
  | delete | idle => exact ⟨fun _ ho => ho, fun ho ht => absurd (ho.symm.trans ht) (by simp)⟩

/-- The sticky flag UNDERFLOW over the operation that the read side selects (R205, R211). -/
theorem read_underflow {s : State} {i : Instr} (h : ReadSelected s i) :
    (s.cdc.req = false ∨ s.cdc.cmd.getLsbD 1 = false → s.ebr.unf = true → (after i s).ebr.unf = true) ∧
      (s.ebr.unf = false → (after i s).ebr.unf = true → i = .ebUnderflow) := by
  cases h with
  | flush hreq hcmd => exact ⟨fun hc _ => absurd hc (by simp [hreq, hcmd]), fun _ ht => Bool.noConfusion ht⟩
  | underflow => exact ⟨fun _ _ => rfl, fun _ _ => rfl⟩
  | prime | start | insert | read => exact ⟨fun _ hu => hu, fun hu ht => absurd (hu.symm.trans ht) (by simp)⟩

/-- Settles O37: each edge writes its flag by the operation that its side of the buffer selects. -/
theorem bufferFlagsAreSticky : Obligations.BufferFlagsAreSticky := by
  constructor
  · intro s t h
    obtain rfl : s.afterRx = t := by rw [rxEdge_eq] at h; cases h; rfl
    exact write_overflow (selectWrite_selected s)
  · intro s t hr h
    obtain ⟨w, k, d, hw⟩ := wired_eq s
    rw [coreEdge_run hr, hw] at h
    cases h
    exact read_underflow (selectRead_selected (s.setNet { w with txRec := SymRec.good k d }))

end Sys2Proof.Machine
end

section
/-! PROOF. A CORE edge under a hard reset (R402 to R404). -/

namespace Sys2Proof.Machine

/-- A second hard reset finds every register at its hard-reset value (R404). -/
theorem hardReset_again (s : State) (y : Sync) (x : Cross) :
    ((s.hardReset.setSync y).setCross x).hardReset = (s.hardReset.setSync y).setCross x := rfl

/-- Settles O57: the outputs are those of the hard-reset values, and the second edge is `hardReset_again`. -/
theorem hardResetEdge : Obligations.HardResetEdge := by
  intro s hreset
  refine ⟨_, coreEdge_hardReset hreset, rfl, rfl, rfl, rfl, rfl, rfl, rfl, rfl, ?_, ?_, ?_⟩
  · exact ⟨rfl, rfl, rfl, rfl, rfl, rfl, rfl, rfl, rfl, rfl, rfl⟩
  · exact ⟨rfl, rfl, rfl, rfl, rfl, rfl, rfl⟩
  · intro hagain u hu
    rw [coreEdge_hardReset hagain, syncCore_eq s.hardReset, hardReset_again] at hu
    cases hu
    rfl

end Sys2Proof.Machine
end

section
/-! PROOF. The invariant: what each part of it reads, and what a legal configuration gives (R10). -/

namespace Sys2Proof.Machine

/-- The bounds of R10 that keep the counters and the slot array in range. -/
structure ConfigBounds (c : Params) : Prop where
  depth : 0 < c.bufferDepth
  threshold : 2 ≤ c.lockThreshold
  confMax : c.lockThreshold ≤ c.confMax
  alignTimeout : 0 < c.alignTimeout
  debounce : 0 < c.sigdetDebounce
  rates : ∃ r, c.supports r = true

theorem configBounds_of_legal {c : Params} (h : c.legal = true) : ConfigBounds c := by
  simp only [Params.legal, Bool.and_eq_true, decide_eq_true_eq] at h
  obtain ⟨⟨⟨⟨⟨⟨⟨⟨hdepth, -⟩, hrates⟩, -⟩, hthreshold, hconf⟩, htimeout, -, -, -⟩, -, -, hdebounce⟩, -⟩, -⟩ := h
  refine ⟨by omega, hthreshold, hconf, htimeout, hdebounce, ?_⟩
  cases hl : c.supportedRates with
  | nil => simp [hl] at hrates
  | cons r rest => exact ⟨r, by simp [Params.supports, hl]⟩

/-- LOWEST_RATE is a supported rate (R11). -/
theorem supports_lowestRate {c : Params} (h : ∃ r, c.supports r = true) : c.supports c.lowestRate = true := by
  have codes : ∀ r : RateCode, r = 0 ∨ r = 1 ∨ r = 2 ∨ r = 3 := by decide
  obtain ⟨r, hr⟩ := h
  unfold Params.lowestRate
  split
  · assumption
  · split
    · assumption
    · split
      · assumption
      · rcases codes r with rfl | rfl | rfl | rfl
        · contradiction
        · contradiction
        · contradiction
        · exact hr

-- Each part of the invariant reads the named components alone

section
variable {s t : State}

theorem MemoryInv.of_eq (h : MemoryInv s) (hc : t.cfg = s.cfg) (hm : t.mem = s.mem) : MemoryInv t :=
  ⟨hm ▸ h.canonical, by rw [hm, hc]; exact h.inRange, by rw [hm]; exact h.kinds⟩

theorem AlignerInv.of_eq (h : AlignerInv s) (hc : t.cfg = s.cfg) (ha : t.al = s.al) : AlignerInv t :=
  ⟨ha ▸ h.offset, by rw [hc, ha]; exact h.conf, by rw [hc, ha]; exact h.since, by rw [ha]; exact h.locked,
    by rw [ha]; exact h.valid⟩

theorem DecoderInv.of_eq (h : DecoderInv s) (hd : t.dec = s.dec) : DecoderInv t :=
  ⟨by rw [hd]; exact h.record, by rw [hd]; exact h.unmarked, by rw [hd]; exact h.unknown⟩

theorem PointerInv.of_eq (h : PointerInv s) (hc : t.cfg = s.cfg) (hw : t.ebw = s.ebw) (hr : t.ebr = s.ebr)
    (hs : t.sync = s.sync) (hx : t.cross = s.cross) : PointerInv t :=
  ⟨by rw [hc, hw]; exact h.wptr, by rw [hc, hr]; exact h.rptr, by rw [hc, hw]; exact h.rgrayW1,
    by rw [hc, hw]; exact h.rgrayW2, by rw [hc, hs]; exact h.wgrayC1, by rw [hc, hs]; exact h.wgrayC2,
    by rw [hc, hx]; exact h.wgrayOld, by rw [hc, hx]; exact h.rgrayOld⟩

theorem ReadInv.of_eq (h : ReadInv s) (hr : t.ebr = s.ebr) : ReadInv t :=
  ⟨by rw [hr]; exact h.record, by rw [hr]; exact h.delivers, by rw [hr]; exact h.underflow⟩

theorem TransmitInv.of_eq (h : TransmitInv s) (hn : t.net = s.net) (he : t.enc = s.enc) : TransmitInv t :=
  ⟨by rw [hn]; exact h.record, by rw [he]; exact h.kerr⟩

theorem OutputInv.of_eq (h : OutputInv s) (hp : t.pa = s.pa) (hx : t.rxd = s.rxd) : OutputInv t :=
  ⟨by rw [hp]; exact h.zeros, by rw [hx]; exact h.detect⟩

theorem CounterInv.of_eq (h : CounterInv s) (hc : t.cfg = s.cfg) (hq : t.ctl = s.ctl) (hi : t.idl = s.idl) :
    CounterInv t :=
  ⟨by rw [hc, hq]; exact h.timer, by rw [hc, hq]; exact h.errRun, by rw [hc, hq]; exact h.lossRun,
    by rw [hc, hi]; exact h.debounce⟩

theorem RequestInv.of_eq (h : RequestInv s) (hq : t.ctl = s.ctl) (hr : t.cdc = s.cdc) : RequestInv t :=
  ⟨by rw [hq, hr]; exact h.up, by rw [hq, hr]; exact h.down, by rw [hr]; exact h.flush⟩

theorem LinkInv.of_eq (h : LinkInv s) (hc : t.cfg = s.cfg) (hq : t.ctl = s.ctl) (hl : t.lc = s.lc) :
    LinkInv t :=
  ⟨by rw [hc, hl]; exact h.rate, by rw [hc, hq, hl]; exact h.pending, by rw [hq, hl]; exact h.power,
    by rw [State.want, hc, hq, hl]; exact h.codec, by rw [hq]; exact h.cause, by rw [hl]; exact h.errCause⟩

theorem ReadyInv.of_eq (h : ReadyInv s) (hq : t.ctl = s.ctl) (hs : t.scr = s.scr) (hd : t.dsc = s.dsc)
    (hr : t.ebr = s.ebr) : ReadyInv t :=
  ⟨by rw [hq]; exact h.configured, by rw [hq, hs, hd, hr]; exact h.running⟩

end

/-- The invariant reads neither the inputs nor the stimulus. -/
theorem EngineInv.of_environment {s : State} (h : EngineInv s) (inp : Inputs) (stim : List Stimulus)
    (tick : Nat) : EngineInv { s with inp := inp, stim := stim, tick := tick } where
  config := h.config
  memory := h.memory.of_eq rfl rfl
  aligner := h.aligner.of_eq rfl rfl
  decoder := h.decoder.of_eq rfl
  pointers := h.pointers.of_eq rfl rfl rfl rfl rfl
  read := h.read.of_eq rfl
  scrambler := h.scrambler
  descrambler := h.descrambler
  transmit := h.transmit.of_eq rfl rfl
  outputs := h.outputs.of_eq rfl rfl
  counters := h.counters.of_eq rfl rfl rfl
  request := h.request.of_eq rfl rfl
  link := h.link.of_eq rfl rfl rfl
  ready := h.ready.of_eq rfl rfl rfl rfl

/-- The next line of the stimulus is used up and its inputs are present: only the environment changes. -/
theorem consume_present_eq (s : State) (st : Stimulus) : ∃ inp stim tick,
    s.consume.present st = { s with inp := inp, stim := stim, tick := tick } := by
  unfold State.consume
  cases s.stim <;> cases st <;> exact ⟨_, _, _, rfl⟩

theorem consume_present_inv {s : State} (h : EngineInv s) (st : Stimulus) : EngineInv (s.consume.present st) := by
  obtain ⟨inp, stim, tick, heq⟩ := consume_present_eq s st
  rw [heq]
  exact h.of_environment inp stim tick

end Sys2Proof.Machine
end

section
/-! PROOF. The invariant over an RX edge: the aligner, the decoder and the write side (R134 to R142, R165 to
R170, R198). -/

namespace Sys2Proof.Machine

-- The aligner

/-- LOCKED is never set without a hypothesis (R141). -/
theorem lockedNext_pos {c : Params} (hc : 0 < c.lockThreshold) {conf : Nat} {l : Bool}
    (h : lockedNext c conf l = true) : 0 < conf := by
  rcases lockedNext_cases c conf l with ⟨hle, -⟩ | ⟨-, -, hf⟩ | ⟨-, hpos, -⟩
  · omega
  · rw [hf] at h; cases h
  · exact hpos

/-- Every case of the aligner's step leaves LOCKED and the valid bit consistent; its counters are given. -/
theorem alignTo_inv {s : State} (hb : ConfigBounds s.cfg) (raw : Block) {offset conf since : Nat}
    (ho : offset < 130) (hc : conf ≤ s.cfg.confMax) (hs : since < s.cfg.alignTimeout) :
    AlignerInv (s.alignTo raw offset conf since) :=
  ⟨ho, hc, hs, lockedNext_pos (by have := hb.threshold; omega), rfl⟩

/-- A case of the aligner's step that moves the time since the last marker, with the modifier
`AL.STEP.TIMEOUT` behind it (R140). -/
theorem alignTo_timeout_inv {s : State} (hb : ConfigBounds s.cfg) (raw : Block) {offset conf : Nat}
    (ho : offset < 130) (hc : conf ≤ s.cfg.confMax) :
    AlignerInv (s.setAl (afterAll (selectTimeout s) (s.alignTo raw offset conf (s.al.since + 1))).al) := by
  unfold selectTimeout
  split
  next hdue =>
    have hdrop : after .alStepTimeout (s.alignTo raw offset conf (s.al.since + 1)) =
        (s.alignTo raw offset conf (s.al.since + 1)).setAl
          { (s.alignTo raw offset conf (s.al.since + 1)).al with
            conf := 0, since := 0
            locked := lockedNext s.cfg 0 (lockedNext s.cfg conf s.al.locked)
            outValid := lockedNext s.cfg 0 (lockedNext s.cfg conf s.al.locked) } :=
      after_of_exec (by simp only [exec, execAlStepTimeout, alignTo_eq, setAl_cfg, setAl_al, hdue, if_true])
    rw [afterAll_cons, afterAll_nil, hdrop]
    exact ⟨ho, Nat.zero_le _, hb.alignTimeout, lockedNext_pos (by have := hb.threshold; omega), rfl⟩
  next hdue => exact (alignTo_inv hb raw ho hc (Nat.lt_of_not_le hdue)).of_eq rfl rfl

/-- A new hypothesis is at a marker, which starts inside the previous word. -/
theorem hits_headD_lt {s : State} (raw : Block) {d : Nat} (hd : d < 130) : (s.hits raw).headD d < 130 := by
  cases h : s.hits raw with
  | nil => exact hd
  | cons o rest =>
    have ho : o < s.rcfgCodec.lineWidth := hits_lt (raw := raw) (by simp [h])
    exact lt_of_lt_of_le ho (lineWidth_le _)

/-- The aligner over an edge, case by case of its dispatch (R134). -/
theorem selectAlign_inv {s : State} (hb : ConfigBounds s.cfg) (h : AlignerInv s) :
    AlignerInv (s.setAl (afterAll (selectAlign s) s).al) := by
  have hmax : 1 ≤ s.cfg.confMax := by have := hb.threshold; have := hb.confMax; omega
  unfold selectAlign
  split
  · exact ⟨Nat.zero_lt_succ _, Nat.zero_le _, hb.alignTimeout, fun hl => Bool.noConfusion hl, rfl⟩
  · split
    next hconf =>
      split
      · have hstay : after (.alStepNone s.raw) s = s.alignTo s.raw s.al.offset s.al.conf s.al.since :=
          after_of_exec (by simp [exec, execAlStepNone, hconf])
        rw [afterAll_cons, afterAll_nil, hstay]
        exact (alignTo_inv hb s.raw h.offset h.conf h.since).of_eq rfl rfl
      · exact (alignTo_inv hb s.raw (hits_headD_lt _ h.offset) hmax hb.alignTimeout).of_eq rfl rfl
    next hconf =>
      split
      · exact (alignTo_inv hb s.raw h.offset (min_le_right _ _) hb.alignTimeout).of_eq rfl rfl
      · split
        · have hnone : after (.alStepNone s.raw) s = s.alignTo s.raw s.al.offset s.al.conf (s.al.since + 1) :=
            after_of_exec (by simp [exec, execAlStepNone, Nat.pos_of_ne_zero hconf])
          rw [afterAll_cons, hnone]
          exact alignTo_timeout_inv hb s.raw h.offset h.conf
        · exact alignTo_timeout_inv hb s.raw h.offset ((Nat.sub_le _ _).trans h.conf)

-- The decoder

/-- A record as the decoder makes it: well formed, and without a mark of the buffer (R166). -/
def FreshRecord (r : SymRec) : Prop := r.ok = true ∧ r.dl = false ∧ r.ins = false

theorem good_fresh (k : Bool) (d : Payload) : FreshRecord (SymRec.good k d) := ⟨good_ok k d, rfl, rfl⟩
theorem bad_code_fresh (d : Payload) : FreshRecord (SymRec.bad .code d) := ⟨rfl, rfl, rfl⟩
theorem bad_disp_fresh (d : Payload) : FreshRecord (SymRec.bad .disp d) := ⟨rfl, rfl, rfl⟩
theorem pairRecord_fresh (kb : Bool × Byte) : FreshRecord (pairRecord kb) := good_fresh _ _

theorem decodeKnown_fresh (rd : Rd) (v : Line10) : FreshRecord (decodeKnown rd v) := by
  rcases decodeKnown_cases rd v with ⟨kb, -, h⟩ | ⟨kb, -, -, h⟩ | ⟨-, -, h⟩ <;> rw [h]
  · exact pairRecord_fresh kb
  · exact bad_disp_fresh _
  · exact bad_code_fresh _

/-- What an operation that the decoder selects makes of its registers `d`. -/
inductive DecodeResult (d : Decoder) : Decoder → Prop
  | reset : DecodeResult d { d with rd := .minus, rdKnown := false, outValid := false }
  | bubble : DecodeResult d { d with outValid := false }
  | known (rd : Rd) {r : SymRec} (hr : FreshRecord r) :
      DecodeResult d { rd := rd, rdKnown := true, out := r, outValid := true }
  | kept {r : SymRec} (hr : FreshRecord r) : DecodeResult d { d with out := r, outValid := true }

theorem acquireStep_result (s : State) (v : Line10) : DecodeResult s.dec (s.acquireStep v).dec := by
  rcases acquireStep_cases s v with ⟨kb, h⟩ | ⟨kb, rd, h⟩ | h <;> rw [h]
  · exact .kept (pairRecord_fresh kb)
  · exact .known _ (pairRecord_fresh kb)
  · exact .kept (bad_code_fresh 0)

theorem selectDec10_result (s : State) (v : Line10) : DecodeResult s.dec (after (selectDec10 s v) s).dec := by
  have hknown : DecodeResult s.dec (s.decodeStep v).dec := .known _ (decodeKnown_fresh s.dec.rd v)
  unfold selectDec10
  split
  · split
    · exact hknown
    · split <;> exact hknown
  · exact acquireStep_result s v

theorem selectDec130_result (s : State) (b : Block) : DecodeResult s.dec (after (selectDec130 b) s).dec := by
  unfold selectDec130
  split
  · exact .kept (good_fresh _ _)
  · split
    · exact .kept (good_fresh _ _)
    · split <;> exact .kept (bad_code_fresh 0)

theorem selectDecode_result (s : State) : DecodeResult s.dec (after (selectDecode s) s).dec := by
  unfold selectDecode
  split
  · exact .reset
  · split
    · split
      · exact selectDec10_result s _
      · exact selectDec130_result s _
    · exact .bubble

theorem decodeResult_inv {s : State} (h : DecoderInv s) {d : Decoder} (hd : DecodeResult s.dec d) :
    DecoderInv (s.setDec d) := by
  cases hd with
  | reset => exact ⟨fun hv => Bool.noConfusion hv, fun hv => Bool.noConfusion hv, fun _ => rfl⟩
  | bubble => exact ⟨fun hv => Bool.noConfusion hv, fun hv => Bool.noConfusion hv, h.unknown⟩
  | known rd hr => exact ⟨fun _ => hr.1, fun _ => hr.2, fun hk => Bool.noConfusion hk⟩
  | kept hr => exact ⟨fun _ => hr.1, fun _ => hr.2, h.unknown⟩

-- The write side

/-- The kind of a well-formed record fits its tag (R96, R97). -/
theorem kindFits_of_ok {r : SymRec} (h : r.ok = true) : kindFits r.tag r.ek = true := (Bool.and_eq_true_iff.1 h).1

/-- The slot array over an edge: one slot is written at most, inside the array, with the decoder's record. -/
theorem write_memory_inv {s : State} (hb : ConfigBounds s.cfg) (hm : MemoryInv s) (hd : DecoderInv s)
    {i : Instr} (hi : WriteSelected s i) : MemoryInv (s.setMem (after i s).mem) := by
  cases hi with
  | write _ hv _ =>
    rw [after_ebWrite hb.depth]
    refine ⟨Memory.write_wf _ _ hm.canonical, fun e he => ?_, fun e he => ?_⟩
    · rcases Memory.mem_write he with rfl | he
      · exact Nat.mod_lt _ hb.depth
      · exact hm.inRange e he
    · rcases Memory.mem_write he with rfl | he
      · exact kindFits_of_ok (hd.record hv)
      · exact hm.kinds e he
  | flush | delete | overflow | idle => exact hm.of_eq rfl rfl

theorem write_wptr_lt {s : State} (hb : ConfigBounds s.cfg) (hp : s.ebw.wptr < 2 ^ s.cfg.pb) {i : Instr}
    (hi : WriteSelected s i) : (after i s).ebw.wptr < 2 ^ s.cfg.pb := by
  cases hi with
  | flush => exact Nat.two_pow_pos _
  | write => rw [after_ebWrite hb.depth]; exact nextPtr_lt s _
  | delete | overflow | idle => exact hp

/-- The pointers over an RX edge: the write side's operation and the samples of the read pointer (R228). -/
theorem afterRx_pointers {s : State} (hb : ConfigBounds s.cfg) (h : PointerInv s) : PointerInv s.afterRx where
  wptr := write_wptr_lt hb h.wptr (selectWrite_selected s)
  rptr := h.rptr
  rgrayW1 := sampleNat_lt h.rgrayOld (gray_lt h.rptr)
  rgrayW2 := h.rgrayW1
  wgrayC1 := h.wgrayC1
  wgrayC2 := h.wgrayC2
  wgrayOld := gray_lt h.wptr
  rgrayOld := h.rgrayOld

/-- An RX edge keeps the invariant: its own registers by their operations, the others unchanged. -/
theorem afterRx_inv {s : State} (h : EngineInv s) : EngineInv s.afterRx :=
  have hb := configBounds_of_legal h.config
  { config := h.config
    memory := (write_memory_inv hb h.memory h.decoder (selectWrite_selected s)).of_eq rfl rfl
    aligner := (selectAlign_inv hb h.aligner).of_eq rfl rfl
    decoder := (decodeResult_inv h.decoder (selectDecode_result s)).of_eq rfl
    pointers := afterRx_pointers hb h.pointers
    read := h.read.of_eq rfl
    scrambler := h.scrambler
    descrambler := h.descrambler
    transmit := h.transmit.of_eq rfl rfl
    outputs := h.outputs.of_eq rfl rfl
    counters := h.counters.of_eq rfl rfl rfl
    request := h.request.of_eq rfl rfl
    link := h.link.of_eq rfl rfl rfl
    ready := h.ready.of_eq rfl rfl rfl rfl }

end Sys2Proof.Machine
end

section
/-! PROOF. The invariant over a CORE edge: the read side, the scramblers, the encoder, the adapter and the
counters (R204 to R211, R251 to R265, R276, R279, R310, R311, R341, R343). -/

namespace Sys2Proof.Machine

-- The read side

/-- The head slot's kind fits its tag, written or not (R98). -/
theorem head_kindFits {s : State} (h : MemoryInv s) : kindFits s.head.tag s.head.ek = true := by
  rcases Memory.read_cases s.mem (s.ebr.rptr % s.cfg.bufferDepth) with hblank | hlisted
  · rw [State.head, State.readSlot, hblank]; rfl
  · exact h.kinds _ hlisted

/-- The record a slot is read into is well formed (R208). -/
theorem toRec_ok {h : Slot} (hk : kindFits h.tag h.ek = true) : h.toRec.ok = true := by
  simp [SymRec.ok, Slot.toRec, hk]

/-- The copy of a filler is well formed: it is not marked as following a dropped one (R210). -/
theorem inserted_ok {h : Slot} (hk : kindFits h.tag h.ek = true) :
    SymRec.ok { h.toRec with dl := false, ins := true } = true := by
  simp [SymRec.ok, Slot.toRec, hk]

/-- The read side over an edge: it delivers a well-formed record, and only while it runs. -/
theorem read_inv {s : State} (hm : MemoryInv s) (h : ReadInv s) {i : Instr} (hi : ReadSelected s i) :
    ReadInv (s.setEbr (after i s).ebr) := by
  have quiet : s.ebr.rdState ≠ .running → s.ebr.unf ≠ true := fun hne hu => hne (h.underflow hu)
  cases hi with
  | flush => exact ⟨fun hv => Bool.noConfusion hv, fun hv => Bool.noConfusion hv, fun hu => Bool.noConfusion hu⟩
  | prime hheld =>
    exact ⟨fun hv => Bool.noConfusion hv, fun hv => Bool.noConfusion hv,
      fun hu => absurd hu (quiet (by simp [hheld]))⟩
  | start hpriming =>
    exact ⟨fun hv => Bool.noConfusion hv, fun hv => Bool.noConfusion hv,
      fun hu => absurd hu (quiet (by simp [hpriming]))⟩
  | underflow hrun => exact ⟨fun hv => Bool.noConfusion hv, fun _ => hrun, fun _ => hrun⟩
  | insert hrun => exact ⟨fun _ => inserted_ok (head_kindFits hm), fun _ => hrun, fun _ => hrun⟩
  | read hrun => exact ⟨fun _ => toRec_ok (head_kindFits hm), fun _ => hrun, fun _ => hrun⟩

theorem read_rptr_lt {s : State} (hp : s.ebr.rptr < 2 ^ s.cfg.pb) {i : Instr} (hi : ReadSelected s i) :
    (after i s).ebr.rptr < 2 ^ s.cfg.pb := by
  cases hi with
  | flush => exact Nat.two_pow_pos _
  | read => exact nextPtr_lt s _
  | prime | start | underflow | insert => exact hp

/-- Without a flush request the read side keeps running (R204). -/
theorem read_keeps_running {s : State} (hreq : s.cdc.req = false) (hrun : s.ebr.rdState = .running) {i : Instr}
    (hi : ReadSelected s i) : (after i s).ebr.rdState = .running := by
  cases hi with
  | flush h => exact absurd h (by simp [hreq])
  | prime h | start h => exact absurd (hrun.symm.trans h) (by decide)
  | underflow | insert | read => exact hrun

/-- The pointers over a CORE edge: the read side's operation and the samples of the write pointer (R228). -/
theorem afterCore_pointers {n : State} (h : PointerInv n) : PointerInv n.afterCore where
  wptr := h.wptr
  rptr := read_rptr_lt h.rptr (selectRead_selected n)
  rgrayW1 := h.rgrayW1
  rgrayW2 := h.rgrayW2
  wgrayC1 := sampleNat_lt h.wgrayOld (gray_lt h.wptr)
  wgrayC2 := h.wgrayC1
  wgrayOld := h.wgrayOld
  rgrayOld := gray_lt h.rptr

-- The scramblers

/-- What an operation on a record `r` makes of a scrambler `v`: the record goes out with the same fields but
for its data, and the tracker stays (R255 to R265). -/
inductive Delivers (r : SymRec) (v : Scrambler) : Scrambler → Prop
  | mk (l : Lfsr) (d : Payload) :
      Delivers r v { v with lfsr := l, run := true, out := { r with data := d }, outValid := true }

theorem scrambled_delivers (s : State) (p : ScrInst) (r : SymRec) (d : Payload) (l : Lfsr) :
    Delivers r (s.inst p) ((s.scrambled p { r with data := d } l).inst p) := by
  rw [scrambled_eq, setInst_inst]
  exact .mk l d

theorem selectScr8_delivers (n s : State) (p : ScrInst) (r : SymRec) :
    Delivers r (s.inst p) ((after (selectScr8 n p r) s).inst p) := by
  have out := scrambled_delivers s p r
  unfold selectScr8
  split
  · split
    · exact out r.data _
    · split <;> exact out r.data _
  · exact out r.data _
  · split
    · exact out r.data _
    · exact out (r.data ^^^ (s.key p .c8b10b).2) _

theorem selectScr128_delivers (s : State) (p : ScrInst) (r : SymRec) :
    Delivers r (s.inst p) ((after (selectScr128 p r) s).inst p) := by
  have out := scrambled_delivers s p r
  unfold selectScr128
  split
  · exact out (r.data ^^^ (s.key p .c128b130b).2) _
  · split
    · exact out r.data _
    · split <;> exact out r.data _
  · exact out r.data _

/-- Which of the two scramblers a record may be fed to is no matter of its data (R250). -/
theorem fedTo_data (p : ScrInst) (r : SymRec) (d : Payload) :
    SymRec.fedTo p { r with data := d } = SymRec.fedTo p r := rfl

/-- The descrambler takes every well-formed record (R250). -/
theorem fedTo_dsc (r : SymRec) : r.fedTo .dsc = r.ok := Bool.and_true _

/-- An operation on a record leaves the invariant to the tracker's registers. -/
theorem delivers_inv {p : ScrInst} {r : SymRec} {v w : Scrambler} (hw : Delivers r v w)
    (hr : r.fedTo p = true) (hcount : v.cnt ≤ 14) (hcom : v.aft = true → v.cnt = 0) : ScramblerInv p w := by
  cases hw with
  | mk l d => exact ⟨fun _ => by rw [fedTo_data]; exact hr, hcount, hcom, fun _ => rfl⟩

theorem delivers_run {r : SymRec} {v w : Scrambler} (hw : Delivers r v w) : w.run = true := by
  cases hw; rfl

/-- The tracker counts at most 14, and a COM clears the count (R254). -/
theorem track_bounds (aft : Bool) {cnt : Nat} (r : SymRec) (h : cnt ≤ 14) :
    (track aft cnt r).2.2 ≤ 14 ∧ ((track aft cnt r).2.1 = true → (track aft cnt r).2.2 = 0) := by
  rcases track_cases aft cnt r with hc | hc | hc | hc <;> rw [hc]
  · exact ⟨Nat.zero_le _, fun _ => rfl⟩
  · exact ⟨le_rfl, fun h => Bool.noConfusion h⟩
  · exact ⟨Nat.zero_le _, fun h => Bool.noConfusion h⟩
  · exact ⟨(Nat.sub_le _ _).trans h, fun h => Bool.noConfusion h⟩

-- The registers after the operations that deliver no record (R252 to R254)

theorem after_scrStart_inst (s : State) (p : ScrInst) :
    (after (.scrStart p) s).inst p = { s.inst p with run := true } := setInst_inst _ _ _
theorem after_ostStep_inst (s : State) (p : ScrInst) (r : SymRec) :
    (after (.ostStep p r) s).inst p =
      { s.inst p with aft := (track (s.inst p).aft (s.inst p).cnt r).2.1,
                      cnt := (track (s.inst p).aft (s.inst p).cnt r).2.2 } := setInst_inst _ _ _
theorem after_scrBubble_inst (s : State) (p : ScrInst) :
    (after (.scrBubble p) s).inst p = { s.inst p with outValid := false } := setInst_inst _ _ _
theorem after_scrStop_inst (s : State) (p : ScrInst) :
    (after (.scrStop p) s).inst p = { s.inst p with run := false, lfsr := s.cfg.seed s.lc.codec, aft := false,
                                                    cnt := 0, outValid := false } := setInst_inst _ _ _

/-- A scrambler over an edge: stopped, or started and then fed the record or the bubble (R251). -/
theorem scrambler_inv {n : State} {p : ScrInst} (h : ScramblerInv p (n.inst p))
    (hin : n.inValid p = true → (n.inRec p).fedTo p = true) :
    ScramblerInv p ((afterAll (selectScr n p) n).inst p) := by
  unfold selectScr
  split
  · have hstart := after_scrStart_inst n p
    generalize hm : after (.scrStart p) n = m at hstart
    rw [afterAll_cons, hm]
    have hcount : (m.inst p).cnt ≤ 14 := by rw [hstart]; exact h.count
    have hcom : (m.inst p).aft = true → (m.inst p).cnt = 0 := by rw [hstart]; exact h.afterCom
    split
    next hv =>
      split
      · have htrack := after_ostStep_inst m p (n.inRec p)
        obtain ⟨hle, hzero⟩ := track_bounds (m.inst p).aft (n.inRec p) hcount
        rw [afterAll_cons, afterAll_cons, afterAll_nil]
        exact delivers_inv (selectScr8_delivers n _ p _) (hin hv) (by rw [htrack]; exact hle)
          (by rw [htrack]; exact hzero)
      · rw [afterAll_cons, afterAll_nil]
        exact delivers_inv (selectScr128_delivers m p _) (hin hv) hcount hcom
    · rw [afterAll_cons, afterAll_nil, after_scrBubble_inst]
      exact ⟨fun hv => Bool.noConfusion hv, hcount, hcom, fun hv => Bool.noConfusion hv⟩
  · rw [afterAll_cons, afterAll_nil, after_scrStop_inst]
    exact ⟨fun hv => Bool.noConfusion hv, Nat.zero_le _, fun ha => Bool.noConfusion ha,
      fun hv => Bool.noConfusion hv⟩

/-- In the states with data flow both scramblers run (R251, R253). -/
theorem scrambler_runs {n : State} {p : ScrInst} (hd : dataflow n.ctl.state = true) :
    ((afterAll (selectScr n p) n).inst p).run = true := by
  unfold selectScr
  rw [if_pos hd, afterAll_cons]
  split
  · split
    · exact delivers_run (selectScr8_delivers n _ p _)
    · exact delivers_run (selectScr128_delivers _ p _)
  · rw [afterAll_cons, afterAll_nil, after_scrBubble_inst]
    exact congrArg Scrambler.run (after_scrStart_inst n p)

-- The transmit path and the adapter

/-- A wrong control byte is flagged only with a symbol (R160). -/
theorem selectEncode_kerr (n : State) :
    (after (selectEncode n) n).enc.kerr = true → (after (selectEncode n) n).enc.outValid = true := by
  unfold selectEncode
  split
  · exact fun h => Bool.noConfusion h
  · split
    · split
      · split
        · split <;> exact fun _ => rfl
        · exact fun _ => rfl
      · split <;> exact fun _ => rfl
    · exact fun h => Bool.noConfusion h

/-- The adapter's record is DATA or CONTROL, without a mark of the buffer (R343). -/
theorem good_fedTo (p : ScrInst) (k : Bool) (d : Payload) : (SymRec.good k d).fedTo p = true := by
  cases p <;> cases k <;> rfl

/-- The invariant holds of any wires that carry a record of the adapter. -/
theorem setNet_inv {s : State} (h : EngineInv s) (w : Nets) (k : Bool) (d : Payload) :
    EngineInv (s.setNet { w with txRec := SymRec.good k d }) where
  config := h.config
  memory := h.memory.of_eq rfl rfl
  aligner := h.aligner.of_eq rfl rfl
  decoder := h.decoder.of_eq rfl
  pointers := h.pointers.of_eq rfl rfl rfl rfl rfl
  read := h.read.of_eq rfl
  scrambler := h.scrambler
  descrambler := h.descrambler
  transmit := ⟨fun _ => good_fedTo .scr _ _, h.transmit.kerr⟩
  outputs := h.outputs.of_eq rfl rfl
  counters := h.counters.of_eq rfl rfl rfl
  request := h.request.of_eq rfl rfl
  link := h.link.of_eq rfl rfl rfl
  ready := h.ready.of_eq rfl rfl rfl rfl

theorem wired_inv {s : State} (h : EngineInv s) : EngineInv s.wired := by
  obtain ⟨w, k, d, hw⟩ := wired_eq s
  rw [hw]
  exact setNet_inv h w k d

/-- A receiver-detect request is started only when none is completed (R279). -/
theorem selectRxd_detect {n : State} (h : n.rxd.busy = true → n.rxd.done = false) :
    (afterAll (selectRxd n) n).rxd.busy = true → (afterAll (selectRxd n) n).rxd.done = false := by
  unfold selectRxd
  split
  · split
    · exact fun hb => Bool.noConfusion hb
    · exact h
  · split
    · exact fun _ => rfl
    · split
      next hstart => exact fun _ => hstart.2.2
      · exact h

theorem afterCore_outputs {n : State} (h : OutputInv n) : OutputInv n.afterCore where
  zeros hv := by
    have hdsc : n.dsc.outValid = false := hv
    have hdata : n.afterCore.pa.rxData = if n.dsc.outValid then n.dsc.out.data else 0 := rfl
    have hk : n.afterCore.pa.rxK = (n.dsc.outValid && n.dsc.out.tag == .control) := rfl
    exact ⟨by rw [hdata, hdsc]; rfl, by rw [hk, hdsc]; rfl⟩
  detect := selectRxd_detect h.detect

-- The counters

theorem errRunNext_le {n : State} (h : n.ctl.errRun ≤ n.cfg.decodeErrLimit) :
    n.errRunNext ≤ n.cfg.decodeErrLimit := by
  unfold State.errRunNext
  split
  · split
    · split
      · exact min_le_right _ _
      · exact Nat.zero_le _
    · exact h
  · exact Nat.zero_le _

theorem lossRunNext_le (n : State) : n.lossRunNext ≤ n.cfg.alignLossLimit := by
  unfold State.lossRunNext
  split
  · split
    · exact Nat.zero_le _
    · exact min_le_right _ _
  · exact Nat.zero_le _

theorem debounce_lt {n : State} (hb : ConfigBounds n.cfg) :
    (after .idlDebounce n).idl.cnt < n.cfg.sigdetDebounce := by
  simp only [after, exec, execIdlDebounce, setIdl_idl]
  split
  · exact hb.debounce
  · split
    · exact hb.debounce
    next hlt => exact Nat.lt_of_not_le hlt

end Sys2Proof.Machine
end

section
/-! PROOF. The controller's dispatch (R295, R315) and the invariant over the state operation it selects. -/

namespace Sys2Proof.Machine

/-- The state operations the controller can select, each with its select condition (R315). -/
inductive CtlSelected (s : State) : Instr → Prop
  | close : s.ctl.state = .transition → s.cdc.req = true → s.sync.ackC2 = true →
      CtlSelected s .ctlTransitionClose
  | done : s.ctl.state = .transition → s.cdc.req = false → CtlSelected s .ctlTransitionDone
  | timeout : s.ctl.state ≠ .transition → s.fatal = .commandTimeout → CtlSelected s .ctlTimeout
  | fatal : s.ctl.state ≠ .transition → s.fatal ≠ .none → CtlSelected s (.ctlFatal s.fatal)
  | rate : s.ctl.state ≠ .transition → s.fatal = .none → s.rateCmd = true → CtlSelected s (.ctlRate s.net.rate)
  | resetReq : s.ctl.state = .reset → s.cdc.req = false → s.sync.ackC2 = false → CtlSelected s .ctlResetReq
  | resetDone : s.ctl.state = .reset → s.cdc.req = true → s.sync.ackC2 = true → CtlSelected s .ctlResetDone
  | detectOk : s.ctl.state = .detect → s.sync.ackC2 = true → CtlSelected s .ctlDetectOk
  | alignOk : s.ctl.state = .align → s.sync.ackC2 = false → CtlSelected s .ctlAlignOk
  | configureOk : s.ctl.state = .configure → s.codecReady = true → s.scramblerReady = true →
      s.bufferReady = true → CtlSelected s .ctlConfigureOk
  | powerdown : s.ctl.state = .active → s.cdc.req = false → s.sync.ackC2 = false → CtlSelected s .ctlPowerdown
  | idleAck : s.ctl.state = .idle → s.sync.ackC2 = true → CtlSelected s .ctlIdleAck
  | powerup : s.ctl.state = .idle → s.sync.ackC2 = true → CtlSelected s .ctlPowerup
  | idleChange : s.ctl.state = .idle → CtlSelected s .ctlIdleChange
  | stay : s.ctl.state = .transition ∨ s.fatal = .none → CtlSelected s .ctlStay

theorem selectExit_selected {s : State} (hf : s.fatal = .none) : CtlSelected s (selectExit s) := by
  have stay : CtlSelected s .ctlStay := .stay (.inr hf)
  unfold selectExit
  split
  next h =>
    split
    next hreq => exact .resetReq h hreq.1 hreq.2
    · split
      next hreq => exact .resetDone h hreq.1 hreq.2
      · exact stay
  next h =>
    split
    next hok => exact .detectOk h (Bool.and_eq_true_iff.1 hok).2
    · exact stay
  next h =>
    split
    next hok => exact .alignOk h hok.2
    · exact stay
  next h =>
    split
    next hok =>
      obtain ⟨hready, hbuffer⟩ := Bool.and_eq_true_iff.1 hok
      obtain ⟨hcodec, hscr⟩ := Bool.and_eq_true_iff.1 hready
      exact .configureOk h hcodec hscr hbuffer
    · exact stay
  next h =>
    split
    next hdown => exact .powerdown h hdown.2.1 hdown.2.2
    · exact stay
  next h =>
    split
    next hack => exact .idleAck h hack.1
    · split
      next hup => exact .powerup h hup.2.2
      · split
        · exact .idleChange h
        · exact stay
  · exact stay

theorem selectCtl_selected (s : State) : CtlSelected s (selectCtl s) := by
  unfold selectCtl
  split
  next ht =>
    split
    next hreq =>
      split
      next hack => exact .close ht hreq hack
      · exact .stay (.inl ht)
    next hreq => exact .done ht (Bool.eq_false_iff.2 hreq)
  next ht =>
    split
    next hf => exact .timeout ht hf
    · split
      next hf => exact .fatal ht hf
      next hf =>
        have hf : s.fatal = .none := not_not.1 hf
        split
        next hr => exact .rate ht hf hr
        · exact selectExit_selected hf

/-- Cause 2 is never taken (R366, I14). -/
theorem fatal_ne_codecDecodeError (s : State) : s.fatal ≠ .codecDecodeError := by
  unfold State.fatal
  repeat' split
  all_goals decide

/-- Where no structural error holds, no timer has run out (R295). -/
theorem timedOut_of_fatal_none {s : State} (h : s.fatal = .none) : s.timedOut = false := by
  by_contra ht
  unfold State.fatal at h
  rw [Bool.not_eq_false] at ht
  simp only [ht, if_true] at h
  revert h
  repeat' split
  all_goals exact fun h => Cause.noConfusion h

-- The two requests (R101)

theorem resetCommand_flush (c : Codec) : (resetCommand c).getLsbD 1 = true := by cases c <;> rfl
theorem flushCommand_flush (c : Codec) : (flushCommand c).getLsbD 1 = true := by cases c <;> rfl

-- Link Configuration after the return from TRANSITION (R297)

theorem after_done_rate {s : State} (h : s.ctl.causeIsRate = true) :
    (after .ctlTransitionDone s).lc = { s.lc with rate := s.lc.pendRate, power := 0 } :=
  congrArg State.lc (finishTransition_rate (s := s.clearPulse) h)

theorem after_done_error {s : State} (h : s.ctl.causeIsRate = false) :
    (after .ctlTransitionDone s).lc = { s.lc with errCause := s.ctl.cause, power := 0 } :=
  congrArg State.lc (finishTransition_error (s := s.clearPulse) h)

-- The request over a state operation

/-- A raised request is right where the request is not held down. -/
theorem requestInv_up {s : State} (hr : s.cdc.req = true) (hf : s.cdc.cmd.getLsbD 1 = true)
    (hq : s.ctl.state = .reset ∨ s.ctl.state = .detect ∨ s.ctl.state = .idle) : RequestInv s :=
  ⟨fun _ => hr, fun h => absurd h (by rcases hq with hq | hq | hq <;> simp [hq]), fun _ => hf⟩

/-- A lowered request is right where the request is not held up. -/
theorem requestInv_down {s : State} (hr : s.cdc.req = false)
    (hq : s.ctl.state ≠ .detect ∧ s.ctl.state ≠ .idle) : RequestInv s :=
  ⟨fun h => absurd h (by simp [hq.1, hq.2]), fun _ => hr, fun h => absurd (hr.symm.trans h) (by simp)⟩

/-- RESET and TRANSITION hold the request neither up nor down. -/
theorem requestInv_free {s : State} (hf : s.cdc.req = true → s.cdc.cmd.getLsbD 1 = true)
    (hq : s.ctl.state = .reset ∨ s.ctl.state = .transition) : RequestInv s :=
  ⟨fun h => absurd h (by rcases hq with hq | hq <;> simp [hq]),
    fun h => absurd h (by rcases hq with hq | hq <;> simp [hq]), hf⟩

/-- The request over a state operation: raised on the way to IDLE, lowered on the way to ALIGN and CONFIGURE, and
still up where DETECT is entered (R319). -/
theorem request_inv {s : State} (h : RequestInv s) {i : Instr} (hi : CtlSelected s i) :
    RequestInv (after i s) := by
  cases hi with
  | close hq =>
    have hstate : (after .ctlTransitionClose s).ctl.state = .transition := hq
    exact requestInv_down rfl (by simp [hstate])
  | done => exact requestInv_free h.flush (.inl rfl)
  | timeout | fatal | rate => exact requestInv_free h.flush (.inr rfl)
  | resetReq hq => exact requestInv_up rfl (resetCommand_flush _) (.inl hq)
  | resetDone _ hr => exact requestInv_up hr (h.flush hr) (.inr (.inl rfl))
  | detectOk | powerup => exact requestInv_down rfl ⟨CtlState.noConfusion, CtlState.noConfusion⟩
  | alignOk hq => exact requestInv_down (h.down (.inl hq)) ⟨CtlState.noConfusion, CtlState.noConfusion⟩
  | configureOk hq => exact requestInv_down (h.down (.inr (.inl hq))) ⟨CtlState.noConfusion, CtlState.noConfusion⟩
  | powerdown => exact requestInv_up rfl (flushCommand_flush _) (.inr (.inr rfl))
  | idleAck | idleChange | stay => exact ⟨h.up, h.down, h.flush⟩

-- Link Configuration over a state operation

/-- `CTL.CODEC` leaves the codec of the active rate: it loads it in RESET and TRANSITION, and elsewhere it is
there (R312). -/
theorem after_codec {s : State} (h : LinkInv s) : (after .ctlCodec s).lc.codec = s.want := by
  simp only [after, exec, execCtlCodec]
  split
  · rfl
  next hq => exact h.codec fun hr => hq (.inl hr)

/-- Link Configuration with the codec of the rate, where the rate changes only on the way to RESET. -/
theorem linkInv_of {s : State} {c : Ctl} {l : LinkConfig} (rate : s.cfg.supports l.rate = true)
    (pending : c.causeIsRate = true → s.cfg.supports l.pendRate = true)
    (power : l.power ≠ 0 → c.state = .idle ∨ c.state = .transition)
    (codec : c.state ≠ .reset → l.rate = s.lc.rate) (cause : c.cause ≠ .codecDecodeError)
    (errCause : l.errCause ≠ .codecDecodeError) :
    LinkInv ((s.setCtl c).setLc { l with codec := s.want }) :=
  ⟨rate, pending, power, fun hq => congrArg s.cfg.codecOf (codec hq).symm, cause, errCause⟩

/-- Link Configuration over a state operation: only the return from TRANSITION changes the rate, and a low-power
state is entered on the way to IDLE alone. -/
theorem link_inv {s : State} (h : LinkInv s) {i : Instr} (hi : CtlSelected s i) :
    LinkInv ((s.setCtl (after i s).ctl).setLc { (after i s).lc with codec := s.want }) := by
  have elsewhere : s.ctl.state ≠ .idle → s.ctl.state ≠ .transition → s.lc.power = 0 := fun hi ht => by
    by_contra hp
    exact (h.power hp).elim hi ht
  cases hi with
  | done =>
    cases hc : s.ctl.causeIsRate with
    | true =>
      rw [after_done_rate hc]
      exact linkInv_of (h.pending hc) h.pending (fun hp => absurd rfl hp) (fun hq => absurd rfl hq) h.cause h.errCause
    | false =>
      rw [after_done_error hc]
      exact linkInv_of h.rate h.pending (fun hp => absurd rfl hp) (fun hq => absurd rfl hq) h.cause h.cause
  | timeout =>
    exact linkInv_of h.rate (fun hc => Bool.noConfusion hc) (fun _ => .inr rfl) (fun _ => rfl)
      Cause.noConfusion h.errCause
  | fatal =>
    exact linkInv_of h.rate (fun hc => Bool.noConfusion hc) (fun _ => .inr rfl) (fun _ => rfl)
      (fatal_ne_codecDecodeError s) h.errCause
  | rate _ _ hr =>
    exact linkInv_of h.rate (fun _ => (Bool.and_eq_true_iff.1 hr).1) (fun _ => .inr rfl) (fun _ => rfl)
      h.cause h.errCause
  | resetDone hq | detectOk hq | alignOk hq | configureOk hq =>
    exact linkInv_of h.rate h.pending (fun hp => absurd (elsewhere (by simp [hq]) (by simp [hq])) hp)
      (fun _ => rfl) h.cause h.errCause
  | powerdown => exact linkInv_of h.rate h.pending (fun _ => .inl rfl) (fun _ => rfl) h.cause h.errCause
  | powerup => exact linkInv_of h.rate h.pending (fun hp => absurd rfl hp) (fun _ => rfl) h.cause h.errCause
  | idleChange hq => exact linkInv_of h.rate h.pending (fun _ => .inl hq) (fun _ => rfl) h.cause h.errCause
  | close | resetReq | idleAck | stay => exact linkInv_of h.rate h.pending h.power (fun _ => rfl) h.cause h.errCause

-- The ready reports over a state operation

/-- Outside RESET and TRANSITION the `rx_clk` domain has been configured: `rx_cfg_done` is set where RESET is
left, and cleared only where it is entered (R297, R299). -/
theorem configured_inv {s : State} (h : ReadyInv s) {i : Instr} (hi : CtlSelected s i)
    (hr : (after i s).ctl.state ≠ .reset) (ht : (after i s).ctl.state ≠ .transition) :
    (after i s).ctl.rxCfgDone = true := by
  cases hi with
  | close hq => exact absurd hq ht
  | done => exact absurd rfl hr
  | timeout | fatal | rate => exact absurd rfl ht
  | resetReq hq => exact absurd hq hr
  | resetDone => rfl
  | detectOk hq | alignOk hq | configureOk hq | powerdown hq | powerup hq =>
    exact h.configured (by simp [hq]) (by simp [hq])
  | idleAck | idleChange | stay => exact h.configured hr ht

/-- ACTIVE is entered from CONFIGURE with the ready reports, or held (R302). -/
theorem active_from {s : State} (h : ReadyInv s) {i : Instr} (hi : CtlSelected s i)
    (ha : (after i s).ctl.state = .active) :
    (s.ctl.state = .configure ∨ s.ctl.state = .active) ∧ s.ebr.rdState = .running := by
  have held : s.ctl.state = .active → (s.ctl.state = .configure ∨ s.ctl.state = .active) ∧
      s.ebr.rdState = .running := fun hq => ⟨.inr hq, (h.running hq).2.2⟩
  cases hi with
  | configureOk hq _ _ hb => exact ⟨.inl hq, by simpa [State.bufferReady] using hb⟩
  | close | resetReq | idleAck | idleChange | stay => exact held ha
  | done | timeout | fatal | rate | resetDone | detectOk | alignOk | powerdown | powerup =>
    exact CtlState.noConfusion ha

theorem afterCore_ready {n : State} (hq : RequestInv n) (h : ReadyInv n) : ReadyInv n.afterCore where
  configured := configured_inv h (selectCtl_selected n)
  running ha := by
    obtain ⟨hstate, hrun⟩ := active_from h (selectCtl_selected n) ha
    have hflow : dataflow n.ctl.state = true := by rcases hstate with hs | hs <;> rw [hs] <;> rfl
    exact ⟨scrambler_runs (p := .scr) hflow, scrambler_runs (p := .dsc) hflow,
      read_keeps_running (hq.down (.inr hstate)) hrun (selectRead_selected n)⟩

-- The timer over a state operation

theorem after_ctl_timer {s : State} {i : Instr} (hi : CtlSelected s i) :
    (after i s).ctl.timer = s.ctl.timer := by
  cases hi <;> rfl

/-- A wait state is held only while its time has not run out (R295, R309). -/
theorem waiting_not_timedOut {s : State} {i : Instr} (hi : CtlSelected s i)
    (hstay : (after i s).ctl.state = s.ctl.state) (hw : waits s.ctl.state = true) : s.timedOut = false := by
  have notTransition : s.ctl.state ≠ .transition := fun h => by rw [h] at hw; cases hw
  cases hi with
  | close hq | done hq => exact absurd hq notTransition
  | timeout hq | fatal hq | rate hq => exact absurd hstay.symm hq
  | resetReq hq | resetDone hq | powerdown hq | idleAck hq | powerup hq | idleChange hq =>
    rw [hq] at hw; cases hw
  | detectOk hq | alignOk hq | configureOk hq => rw [hq] at hstay; cases hstay
  | stay hf => exact timedOut_of_fatal_none (hf.resolve_left notTransition)

/-- Every wait state has a time limit (R295). -/
theorem timeLimit_of_waits (c : Params) {q : CtlState} (h : waits q = true) : ∃ t, timeLimit c q = some t := by
  cases q with
  | detect | align | configure => exact ⟨_, rfl⟩
  | reset | active | idle | transition => cases h

/-- A timer that has not run out may count once more (R310). -/
theorem timer_succ_le {s : State} (hw : waits s.ctl.state = true) (ht : s.timedOut = false) :
    s.ctl.timer + 1 ≤ (timeLimit s.cfg s.ctl.state).getD 0 := by
  obtain ⟨t, hl⟩ := timeLimit_of_waits s.cfg hw
  simp only [State.timedOut, hl, decide_eq_false_iff_not] at ht
  rw [hl]
  exact Nat.lt_of_not_le ht

theorem afterCore_timer (n : State) :
    n.afterCore.ctl.timer ≤ (timeLimit n.cfg n.afterCore.ctl.state).getD 0 := by
  have hstate : n.afterCore.ctl.state = (after (selectCtl n) n).ctl.state := rfl
  have htick : n.afterCore.ctl.timer =
      if (after (selectCtl n) n).ctl.state = n.ctl.state ∧ waits n.ctl.state then
        (after (selectCtl n) n).ctl.timer + 1 else 0 := rfl
  rw [htick, hstate]
  split
  next hwait =>
    obtain ⟨hstay, hw⟩ := hwait
    rw [hstay, after_ctl_timer (selectCtl_selected n)]
    exact timer_succ_le hw (waiting_not_timedOut (selectCtl_selected n) hstay hw)
  · exact Nat.zero_le _

theorem afterCore_counters {n : State} (hb : ConfigBounds n.cfg) (h : CounterInv n) : CounterInv n.afterCore :=
  ⟨afterCore_timer n, errRunNext_le h.errRun, lossRunNext_le n, debounce_lt hb⟩

theorem afterCore_link {n : State} (h : LinkInv n) : LinkInv n.afterCore := by
  have hlink := link_inv h (selectCtl_selected n)
  rw [← after_codec h] at hlink
  exact ⟨hlink.rate, hlink.pending, hlink.power, hlink.codec, hlink.cause, hlink.errCause⟩

theorem afterCore_request {n : State} (h : RequestInv n) : RequestInv n.afterCore :=
  have hreq := request_inv h (selectCtl_selected n)
  ⟨hreq.up, hreq.down, hreq.flush⟩

/-- A CORE edge without hard reset keeps the invariant, from the state whose wires carry the pins. -/
theorem afterCore_inv {n : State} (h : EngineInv n) : EngineInv n.afterCore where
  config := h.config
  memory := h.memory.of_eq rfl rfl
  aligner := h.aligner.of_eq rfl rfl
  decoder := h.decoder.of_eq rfl
  pointers := afterCore_pointers h.pointers
  read := (read_inv h.memory h.read (selectRead_selected n)).of_eq rfl
  scrambler := scrambler_inv (p := .scr) h.scrambler h.transmit.record
  descrambler := scrambler_inv (p := .dsc) h.descrambler fun hv =>
    (fedTo_dsc _).trans (h.read.record hv)
  transmit := ⟨h.transmit.record, selectEncode_kerr n⟩
  outputs := afterCore_outputs h.outputs
  counters := afterCore_counters (configBounds_of_legal h.config) h.counters
  request := afterCore_request h.request
  link := afterCore_link h.link
  ready := afterCore_ready h.request h.ready

end Sys2Proof.Machine
end

section
/-! PROOF. The invariant over a hard reset and over every step. -/

namespace Sys2Proof.Machine

/-- A scrambler at its hard-reset value (R36). -/
theorem scrambler_hardReset_inv (c : Params) (p : ScrInst) (v : Scrambler) :
    ScramblerInv p (Scrambler.hardReset c v) :=
  ⟨fun h => Bool.noConfusion h, Nat.zero_le _, fun h => Bool.noConfusion h, fun h => Bool.noConfusion h⟩

/-- Link Configuration at its hard-reset value, in RESET (R32). -/
theorem hardReset_link {s : State} (hb : ConfigBounds s.cfg) : LinkInv s.hardReset :=
  ⟨supports_lowestRate hb.rates, fun h => Bool.noConfusion h, fun h => absurd rfl h, fun h => absurd rfl h,
    Cause.noConfusion, Cause.noConfusion⟩

/-- A CORE edge under a hard reset keeps the invariant (R402). -/
theorem hardReset_edge_inv {s : State} (h : EngineInv s) :
    EngineInv (s.hardReset.syncCore.setCross (crossAfterCore s)) :=
  have hb := configBounds_of_legal h.config
  { config := h.config
    memory := h.memory.of_eq rfl rfl
    aligner := h.aligner.of_eq rfl rfl
    decoder := h.decoder.of_eq rfl
    pointers :=
      { wptr := h.pointers.wptr
        rptr := Nat.two_pow_pos _
        rgrayW1 := h.pointers.rgrayW1
        rgrayW2 := h.pointers.rgrayW2
        wgrayC1 := sampleNat_lt h.pointers.wgrayOld (gray_lt h.pointers.wptr)
        wgrayC2 := h.pointers.wgrayC1
        wgrayOld := h.pointers.wgrayOld
        rgrayOld := gray_lt h.pointers.rptr }
    read := ⟨fun h => Bool.noConfusion h, fun h => Bool.noConfusion h, fun h => Bool.noConfusion h⟩
    scrambler := scrambler_hardReset_inv _ _ _
    descrambler := scrambler_hardReset_inv _ _ _
    transmit := ⟨h.transmit.record, fun h => Bool.noConfusion h⟩
    outputs := ⟨fun _ => ⟨rfl, rfl⟩, fun h => Bool.noConfusion h⟩
    counters := ⟨Nat.zero_le _, Nat.zero_le _, Nat.zero_le _, hb.debounce⟩
    request := requestInv_free (fun h => Bool.noConfusion h) (.inl rfl)
    link := (hardReset_link hb).of_eq rfl rfl rfl
    ready := ⟨fun h => absurd rfl h, fun h => CtlState.noConfusion h⟩ }

/-- Every edge of either agent keeps the invariant. -/
theorem edge_inv {a : Agent} {s t : State} (h : EngineInv s) (he : edge a s = .next t) : EngineInv t := by
  cases a with
  | rx =>
    rw [edge, rxEdge_eq] at he
    cases he
    exact afterRx_inv h
  | core =>
    rw [edge] at he
    cases hr : s.inp.mac.resetN with
    | true =>
      rw [coreEdge_run hr] at he
      cases he
      exact afterCore_inv (wired_inv h)
    | false =>
      rw [coreEdge_hardReset hr] at he
      cases he
      exact hardReset_edge_inv h

/-- Settles O4: a step under a legal configuration is an edge, at a state that presents its inputs. -/
theorem stepKeepsInvariant : Obligations.StepKeepsInvariant := by
  intro s t h hs
  rw [step_legal h.config] at hs
  exact edge_inv (consume_present_inv h _) hs

end Sys2Proof.Machine
end

section
/-! PROOF. The elastic buffer drops and repeats fillers alone, each within its band of the fill view (R74,
R196, R198, R204). -/

namespace Sys2Proof.Machine

/-- With the fill view out of range the read side delivers nothing (R204). -/
theorem selectRead_out_of_range {s : State} (hout : s.fillR = 0 ∨ s.cfg.bufferDepth < s.fillR) :
    selectRead s ∈ [Instr.ebFlushr, .ebPrime, .ebStart, .ebUnderflow] := by
  rw [selectRead, if_pos hout]
  split
  next => simp
  next => cases s.ebr.rdState <;> simp

/-- Where the read side delivers the head, the fill view is in range (R204). -/
theorem fillR_in_range {s : State} {h : Slot}
    (hs : selectRead s = .ebInsert h ∨ selectRead s = .ebRead h) :
    1 ≤ s.fillR ∧ s.fillR ≤ s.cfg.bufferDepth := by
  by_contra hrange
  have hquiet := selectRead_out_of_range (s := s) (by omega)
  obtain hs | hs := hs <;> simp [hs] at hquiet

/-- Where the write side selects `EB.DELETE` (R198). -/
theorem selectWrite_delete {s : State} {r : SymRec} (hs : selectWrite s = .ebDelete r) :
    r = s.dec.out ∧ isFiller r.tag r.data s.rcfgCodec = true ∧ s.cfg.ebHigh ≤ s.fillW ∧
      s.fillW ≤ s.cfg.bufferDepth - 2 := by
  have hsel := selectWrite_selected s
  rw [hs] at hsel
  cases hsel with
  | delete _ _ hfiller hlow hhigh => exact ⟨rfl, hfiller, hlow, hhigh⟩

/-- Where the write side selects `EB.OVERFLOW` (R198). -/
theorem selectWrite_overflow {s : State} {r : SymRec} (hs : selectWrite s = .ebOverflow r) :
    r = s.dec.out ∧ s.cfg.bufferDepth ≤ s.fillW := by
  have hsel := selectWrite_selected s
  rw [hs] at hsel
  cases hsel with
  | overflow _ _ hfull => exact ⟨rfl, hfull⟩

/-- Where the read side selects `EB.INSERT` (R204). -/
theorem selectRead_insert {s : State} {h : Slot} (hs : selectRead s = .ebInsert h) :
    h = s.head ∧ isFiller h.tag h.data s.lc.codec = true ∧ 1 ≤ s.fillR ∧ s.fillR ≤ s.cfg.ebLow := by
  obtain ⟨hpos, -⟩ := fillR_in_range (.inl hs)
  have hsel := selectRead_selected s
  rw [hs] at hsel
  cases hsel with
  | insert _ hfiller hlow => exact ⟨rfl, hfiller, hpos, hlow⟩

/-- Where the read side selects `EB.READ` (R204). -/
theorem selectRead_read {s : State} {h : Slot} (hs : selectRead s = .ebRead h) :
    h = s.head ∧ 1 ≤ s.fillR ∧ s.fillR ≤ s.cfg.bufferDepth := by
  have hrange := fillR_in_range (.inr hs)
  have hsel := selectRead_selected s
  rw [hs] at hsel
  cases hsel with
  | read _ => exact ⟨rfl, hrange⟩

/-- Settles O36, from the select conditions of the four operations. -/
theorem onlyFillersAddedOrDropped : Obligations.OnlyFillersAddedOrDropped := fun _ =>
  ⟨fun _ => selectWrite_delete, fun _ => selectWrite_overflow, fun _ => selectRead_insert,
    fun _ => selectRead_read⟩

end Sys2Proof.Machine
end

section
/-! PROOF. The operation word reads back (R90 to R118; log entry 2). -/

namespace Sys2Proof.Decoding

-- one theorem at a time: elaborated side by side they outgrow the checker's memory
set_option Elab.async false

open Sys2Proof.Laws

-- The twenty bytes of a word

theorem length_toBytes : ∀ n w : Nat, (toBytes n w).length = n
  | 0, _ => rfl
  | n + 1, w => by rw [toBytes, List.length_cons, length_toBytes n]

/-- A number that fits in `n` bytes is the number its bytes stand for. -/
theorem ofBytes_toBytes : ∀ {n w : Nat}, w < 256 ^ n → ofBytes (toBytes n w) = w
  | 0, w, h => by simp at h; rw [h]; rfl
  | n + 1, w, h => by
    have hrest : w / 256 < 256 ^ n := by rw [Nat.pow_succ] at h; omega
    rw [toBytes, ofBytes, ofBytes_toBytes hrest, BitVec.toNat_ofNat]
    omega

/-- The format of every operation fits below its row tag, operation by operation. -/
theorem encodingFits : ∀ i : Instr, EncodingFits.Statement i
  | .cdcSync agent => EncodingFits.cdcSync agent
  | .cdcReq cmd => EncodingFits.cdcReq cmd
  | .cdcAck => EncodingFits.cdcAck
  | .rxcmdRealign => EncodingFits.rxcmdRealign
  | .rxcmdFlush => EncodingFits.rxcmdFlush
  | .rxcmdDecreset codec => EncodingFits.rxcmdDecreset codec
  | .alReset => EncodingFits.alReset
  | .alStepAcquire raw => EncodingFits.alStepAcquire raw
  | .alStepHit raw => EncodingFits.alStepHit raw
  | .alStepMiss raw => EncodingFits.alStepMiss raw
  | .alStepNone raw => EncodingFits.alStepNone raw
  | .alStepTimeout => EncodingFits.alStepTimeout
  | .dec10Ok v => EncodingFits.dec10Ok v
  | .dec10Disp v => EncodingFits.dec10Disp v
  | .dec10Code v => EncodingFits.dec10Code v
  | .dec10Acq v => EncodingFits.dec10Acq v
  | .decReset => EncodingFits.decReset
  | .decBubble => EncodingFits.decBubble
  | .dec130D payload => EncodingFits.dec130D payload
  | .dec130Os payload => EncodingFits.dec130Os payload
  | .dec130Badsync00 payload => EncodingFits.dec130Badsync00 payload
  | .dec130Badsync11 payload => EncodingFits.dec130Badsync11 payload
  | .ebFlushw => EncodingFits.ebFlushw
  | .ebDelete r => EncodingFits.ebDelete r
  | .ebOverflow r => EncodingFits.ebOverflow r
  | .ebWrite r => EncodingFits.ebWrite r
  | .ebIdlew => EncodingFits.ebIdlew
  | .ebFlushr => EncodingFits.ebFlushr
  | .ebPrime => EncodingFits.ebPrime
  | .ebStart => EncodingFits.ebStart
  | .ebUnderflow => EncodingFits.ebUnderflow
  | .ebInsert head => EncodingFits.ebInsert head
  | .ebRead head => EncodingFits.ebRead head
  | .scrStop p => EncodingFits.scrStop p
  | .scrStart p => EncodingFits.scrStart p
  | .scrBubble p => EncodingFits.scrBubble p
  | .ostStep p r => EncodingFits.ostStep p r
  | .scr8Com p r => EncodingFits.scr8Com p r
  | .scr8Skp p r => EncodingFits.scr8Skp p r
  | .scr8Ctl p r => EncodingFits.scr8Ctl p r
  | .scr8Bypass p r => EncodingFits.scr8Bypass p r
  | .scr8Data p r => EncodingFits.scr8Data p r
  | .scr8Err p r => EncodingFits.scr8Err p r
  | .scr128Data p r => EncodingFits.scr128Data p r
  | .scr128Eieos p r => EncodingFits.scr128Eieos p r
  | .scr128Skp p r => EncodingFits.scr128Skp p r
  | .scr128Os p r => EncodingFits.scr128Os p r
  | .scr128Err p r => EncodingFits.scr128Err p r
  | .encReset => EncodingFits.encReset
  | .enc10D b => EncodingFits.enc10D b
  | .enc10K b => EncodingFits.enc10K b
  | .enc10Kinv b => EncodingFits.enc10Kinv b
  | .encBubble => EncodingFits.encBubble
  | .enc130D d => EncodingFits.enc130D d
  | .enc130Os d => EncodingFits.enc130Os d
  | .idlDebounce => EncodingFits.idlDebounce
  | .rxdDone => EncodingFits.rxdDone
  | .rxdClear => EncodingFits.rxdClear
  | .rxdStart => EncodingFits.rxdStart
  | .ctlHardreset => EncodingFits.ctlHardreset
  | .ctlTransitionClose => EncodingFits.ctlTransitionClose
  | .ctlTransitionDone => EncodingFits.ctlTransitionDone
  | .ctlResetReq => EncodingFits.ctlResetReq
  | .ctlResetDone => EncodingFits.ctlResetDone
  | .ctlDetectOk => EncodingFits.ctlDetectOk
  | .ctlAlignOk => EncodingFits.ctlAlignOk
  | .ctlConfigureOk => EncodingFits.ctlConfigureOk
  | .ctlPowerdown => EncodingFits.ctlPowerdown
  | .ctlIdleAck => EncodingFits.ctlIdleAck
  | .ctlPowerup => EncodingFits.ctlPowerup
  | .ctlIdleChange => EncodingFits.ctlIdleChange
  | .ctlRate rate => EncodingFits.ctlRate rate
  | .ctlFatal cause => EncodingFits.ctlFatal cause
  | .ctlTimeout => EncodingFits.ctlTimeout
  | .ctlTick before => EncodingFits.ctlTick before
  | .ctlMonitor => EncodingFits.ctlMonitor
  | .ctlCodec => EncodingFits.ctlCodec
  | .ctlStay => EncodingFits.ctlStay
  | .paRxmap valid r => EncodingFits.paRxmap valid r
  | .paStatus => EncodingFits.paStatus
  | .paTxmap data datak elecidle => EncodingFits.paTxmap data datak elecidle
  | .paCmdmap pins => EncodingFits.paCmdmap pins

theorem rowNumber_lt (i : Instr) : i.rowNumber < 82 := by
  cases i <;> exact of_decide_eq_true rfl

/-- The decoder takes an operation word apart into the row tag and the bits of the row's format. -/
theorem decode_encode_eq_row {i : Instr} (h : EncodingFits.Statement i) :
    decode (toBytes 20 (encode i)) = row i.rowNumber i.formatBits := by
  obtain ⟨hfits, htag⟩ := h
  have hrow := rowNumber_lt i
  have hword : encode i < 256 ^ 20 := by unfold encode; omega
  have hformat : encode i % 2 ^ 152 = i.formatBits := by unfold encode; omega
  rw [decode, length_toBytes, ofBytes_toBytes hword, decodeWord, htag, hformat]
  exact if_pos ⟨rfl, Nat.succ_ne_zero _⟩

-- What each reader of the decoder answers on the bits the encoder writes

theorem keep_ok {i : Instr} (h : i.wellFormed = true) : keep i = .ok i := if_pos h

/-- An operand that fills its format leaves no stray bit. -/
theorem done_ok {x m : Nat} {i : Instr} (h : i.wellFormed = true) (hx : x < m) : done (x / m) i = .ok i :=
  (if_pos (Nat.div_eq_of_lt hx)).trans (keep_ok h)

theorem two_bit (b : Bool) (i0 i1 : Instr) : two (bit b) i0 i1 = keep (if b then i1 else i0) := by
  cases b <;> rfl

theorem withInst_num (p : ScrInst) (f : ScrInst → Instr) : withInst p.num f = keep (f p) := by
  cases p <;> rfl

theorem tagOf_num (t : Tag) : tagOf t.num = some t := by cases t <;> rfl
theorem ekOf_num (k : Ek) : ekOf k.num = some k := by cases k <;> rfl

theorem withCause_num (c : Cause) (f : Cause → Instr) : withCause c.num f = keep (f c) := by
  cases c <;> rfl

theorem withState_num (q : CtlState) (f : CtlState → Instr) : withState q.num f = keep (f q) := by
  cases q <;> rfl

theorem bit_beq_one (b : Bool) : (bit b == 1) = b := by cases b <;> rfl

/-- A record in format `SYMREC` reads back, whatever stands above it (R96). -/
theorem withRec_bits (r : SymRec) (above : Nat) (f : SymRec → Except DecodeError Instr) :
    withRec (r.bits + 2 ^ 134 * above) f = f r := by
  have hdata := r.data.isLt
  have htag := tag_lt r.tag
  have hek := ek_lt r.ek
  have hdl := bit_lt r.dl
  have hins := bit_lt r.ins
  have rdata : BitVec.ofNat 128 (r.bits + 2 ^ 134 * above) = r.data :=
    BitVec.eq_of_toNat_eq (by rw [BitVec.toNat_ofNat]; unfold SymRec.bits; omega)
  have rtag : (r.bits + 2 ^ 134 * above) / 2 ^ 128 % 4 = r.tag.num := by unfold SymRec.bits; omega
  have rek : (r.bits + 2 ^ 134 * above) / 2 ^ 130 % 4 = r.ek.num := by unfold SymRec.bits; omega
  have rdl : (r.bits + 2 ^ 134 * above) / 2 ^ 132 % 2 = bit r.dl := by unfold SymRec.bits; omega
  have rins : (r.bits + 2 ^ 134 * above) / 2 ^ 133 % 2 = bit r.ins := by unfold SymRec.bits; omega
  rw [withRec, rdata, rtag, rek, rdl, rins, tagOf_num, ekOf_num, bit_beq_one, bit_beq_one]

/-- What stands above a record in format `SYMREC`. -/
theorem above_bits (r : SymRec) (above : Nat) : (r.bits + 2 ^ 134 * above) / 2 ^ 134 = above := by
  have h := symRec_bits_lt r
  omega

/-- A slot in format `SLOT` reads back (R98). -/
theorem withSlot_bits (h : Slot) (f : Slot → Except DecodeError Instr) : withSlot h.bits f = f h := by
  have hdata := h.data.isLt
  have htag := tag_lt h.tag
  have hek := ek_lt h.ek
  have hdl := bit_lt h.dl
  have rdata : BitVec.ofNat 128 h.bits = h.data :=
    BitVec.eq_of_toNat_eq (by rw [BitVec.toNat_ofNat]; unfold Slot.bits; omega)
  have rtag : h.bits / 2 ^ 128 % 4 = h.tag.num := by unfold Slot.bits; omega
  have rek : h.bits / 2 ^ 130 % 4 = h.ek.num := by unfold Slot.bits; omega
  have rdl : h.bits / 2 ^ 132 % 2 = bit h.dl := by unfold Slot.bits; omega
  rw [withSlot, rdata, rtag, rek, rdl, tagOf_num, ekOf_num, bit_beq_one]

/-- A record viewed as `SYM9` reads back with the tag of the row, whatever stands above it (R92). -/
theorem withSym9_bits {k : Nat} (hk : k < 2) {r : SymRec} {t : Tag} (ht : r.tag = t) (above : Nat)
    (f : SymRec → Except DecodeError Instr) : withSym9 k t (r.sym9Bits k + 2 ^ 133 * above) f = f r := by
  subst ht
  have hdata := r.data.isLt
  have hek := ek_lt r.ek
  have hdl := bit_lt r.dl
  have hins := bit_lt r.ins
  generalize hx : r.sym9Bits k + 2 ^ 133 * above = x
  have hsplit : x = r.data.toNat % 2 ^ 8 + 2 ^ 8 * (k + 2 * (x / 2 ^ 9)) ∧
      x / 2 ^ 9 = r.data.toNat / 2 ^ 8 +
        2 ^ 120 * (r.ek.num + 4 * (bit r.dl + 2 * bit r.ins + 4 * above)) := by
    unfold SymRec.sym9Bits at hx
    omega
  obtain ⟨hlow, hhigh⟩ := hsplit
  have hflag : x / 2 ^ 8 % 2 = k := by omega
  have rdata : BitVec.ofNat 128 (x % 2 ^ 8 + 2 ^ 8 * (x / 2 ^ 9 % 2 ^ 120)) = r.data :=
    BitVec.eq_of_toNat_eq (by rw [BitVec.toNat_ofNat]; omega)
  have hrest : x / 2 ^ 129 = r.ek.num + 4 * (bit r.dl + 2 * bit r.ins + 4 * above) := by omega
  have hmarks : x / 2 ^ 131 = bit r.dl + 2 * bit r.ins + 4 * above := by omega
  have hmark : x / 2 ^ 132 = bit r.ins + 2 * above := by omega
  have rek : x / 2 ^ 129 % 4 = r.ek.num := by rw [hrest]; omega
  have rdl : x / 2 ^ 131 % 2 = bit r.dl := by rw [hmarks]; omega
  have rins : x / 2 ^ 132 % 2 = bit r.ins := by rw [hmark]; omega
  rw [withSym9, if_pos hflag, rdata, rek, rdl, rins, ekOf_num, bit_beq_one, bit_beq_one]

/-- What stands above a record viewed as `SYM9`. -/
theorem above_sym9Bits {k : Nat} (hk : k < 2) (r : SymRec) (above : Nat) :
    (r.sym9Bits k + 2 ^ 133 * above) / 2 ^ 133 = above := by
  have h := sym9_bits_lt k hk r
  omega

-- The readers of the formats with an operand

/-- An operand alone in its format. -/
theorem done_operand {w : Nat} (v : BitVec w) (f : BitVec w → Instr) (h : (f v).wellFormed = true) :
    done (v.toNat / 2 ^ w) (f (BitVec.ofNat w v.toNat)) = .ok (f v) := by
  rw [BitVec.ofNat_toNat, BitVec.setWidth_eq]
  exact done_ok h v.isLt

/-- A payload above the sync header that the row fixes (R93, R94). -/
theorem block_operand (d : Payload) {k : Nat} (hk : k < 4) (f : Payload → Instr)
    (h : (f d).wellFormed = true) :
    (if (4 * d.toNat + k) % 4 = k then
      done ((4 * d.toNat + k) / 2 ^ 130) (f (BitVec.ofNat 128 ((4 * d.toNat + k) / 4)))
    else .error .wrongPattern) = .ok (f d) := by
  have hd := d.isLt
  rw [if_pos (by omega), show (4 * d.toNat + k) / 4 = d.toNat by omega, BitVec.ofNat_toNat,
    BitVec.setWidth_eq]
  exact done_ok h (by omega)

/-- A byte under the control flag (R92). -/
theorem control_operand (b : Byte) (f : Byte → Instr) (h : (f b).wellFormed = true) :
    (if (b.toNat + 256) / 256 = 1 then keep (f (BitVec.ofNat 8 (b.toNat + 256)))
    else .error .wrongPattern) = .ok (f b) := by
  have hb := b.isLt
  have hbyte : BitVec.ofNat 8 (b.toNat + 256) = b :=
    BitVec.eq_of_toNat_eq (by rw [BitVec.toNat_ofNat]; omega)
  rw [if_pos (by omega), hbyte, keep_ok h]

/-- A record alone in its format. -/
theorem rec_operand (r : SymRec) (f : SymRec → Instr) (h : (f r).wellFormed = true) :
    withRec r.bits (fun r' => done (r.bits / 2 ^ 134) (f r')) = .ok (f r) := by
  have hread := withRec_bits r 0 (fun r' => done (r.bits / 2 ^ 134) (f r'))
  rw [Nat.mul_zero, Nat.add_zero] at hread
  exact hread.trans (done_ok h (symRec_bits_lt r))

/-- A slot alone in its format. -/
theorem slot_operand (s : Slot) (f : Slot → Instr) (h : (f s).wellFormed = true) :
    withSlot s.bits (fun s' => done (s.bits / 2 ^ 133) (f s')) = .ok (f s) :=
  (withSlot_bits s _).trans (done_ok h (slot_bits_lt s))

/-- A record with the bit of its scrambler above it. -/
theorem rec_inst_operand (p : ScrInst) (r : SymRec) (f : ScrInst → SymRec → Instr)
    (h : (f p r).wellFormed = true) :
    withRec (r.bits + 2 ^ 134 * p.num)
      (fun r' => withInst ((r.bits + 2 ^ 134 * p.num) / 2 ^ 134) (fun p' => f p' r')) = .ok (f p r) := by
  rw [withRec_bits, above_bits, withInst_num, keep_ok h]

/-- A record viewed as `SYM9`, of the row's tag, with the bit of its scrambler above it. -/
theorem sym9_inst_operand {k : Nat} (hk : k < 2) (p : ScrInst) {r : SymRec} {t : Tag} (ht : r.tag = t)
    (f : ScrInst → SymRec → Instr) (h : (f p r).wellFormed = true) :
    withSym9 k t (r.sym9Bits k + 2 ^ 133 * p.num)
      (fun r' => withInst ((r.sym9Bits k + 2 ^ 133 * p.num) / 2 ^ 133) (fun p' => f p' r')) =
        .ok (f p r) := by
  rw [withSym9_bits hk ht, above_sym9Bits hk, withInst_num, keep_ok h]

/-- A record with its valid bit above it (R341). -/
theorem rec_valid_operand (v : Bool) (r : SymRec) (f : Bool → SymRec → Instr)
    (h : (f v r).wellFormed = true) :
    withRec (r.bits + 2 ^ 134 * bit v)
      (fun r' => two ((r.bits + 2 ^ 134 * bit v) / 2 ^ 134) (f false r') (f true r')) = .ok (f v r) := by
  rw [withRec_bits, above_bits, two_bit]
  cases v <;> exact keep_ok h

/-- A payload with two flags above it (R343). -/
theorem flags_operand (d : Payload) (k e : Bool) (f : Payload → Bool → Bool → Instr)
    (h : (f d k e).wellFormed = true) :
    withFlags ((d.toNat + 2 ^ 128 * (bit k + 2 * bit e)) / 2 ^ 128)
      (fun k' e' => f (BitVec.ofNat 128 (d.toNat + 2 ^ 128 * (bit k + 2 * bit e))) k' e') =
        .ok (f d k e) := by
  have hd := d.isLt
  have hk := bit_lt k
  have he := bit_lt e
  have hdata : BitVec.ofNat 128 (d.toNat + 2 ^ 128 * (bit k + 2 * bit e)) = d :=
    BitVec.eq_of_toNat_eq (by rw [BitVec.toNat_ofNat]; omega)
  have habove : (d.toNat + 2 ^ 128 * (bit k + 2 * bit e)) / 2 ^ 128 = bit k + 2 * bit e := by omega
  rw [hdata, habove, withFlags, show (bit k + 2 * bit e) % 2 = bit k by omega,
    show (bit k + 2 * bit e) / 2 % 2 = bit e by omega, bit_beq_one, bit_beq_one]
  exact done_ok h (by omega)

/-- The tag of a scrambler's record that the row fixes (R251). -/
theorem tag_of_sym9 {p : ScrInst} {r : SymRec} {t : Tag} (h : (r.fedTo p && r.tag == t) = true) : r.tag = t :=
  eq_of_beq (Bool.and_eq_true_iff.1 h).2

/-- Every row reads the format bits of its operation as that operation, format by format. -/
theorem row_formatBits {i : Instr} (h : i.wellFormed = true) : row i.rowNumber i.formatBits = .ok i := by
  cases i with
  -- no operand
  | cdcAck | rxcmdRealign | rxcmdFlush | alReset | alStepTimeout | decReset | decBubble | ebFlushw
  | ebIdlew | ebFlushr | ebPrime | ebStart | ebUnderflow | encReset | encBubble | idlDebounce | rxdDone
  | rxdClear | rxdStart | ctlHardreset | ctlTransitionClose | ctlTransitionDone | ctlResetReq
  | ctlResetDone | ctlDetectOk | ctlAlignOk | ctlConfigureOk | ctlPowerdown | ctlIdleAck | ctlPowerup
  | ctlIdleChange | ctlTimeout | ctlMonitor | ctlCodec | ctlStay | paStatus => rfl
  -- an operand of a few values
  | cdcSync a => cases a <;> rfl
  | rxcmdDecreset c => cases c <;> rfl
  | scrStop p | scrStart p | scrBubble p => cases p <;> rfl
  | ctlRate rate => revert rate; decide
  | ctlFatal c => exact (withCause_num c _).trans (keep_ok h)
  | ctlTick q => exact (withState_num q _).trans (keep_ok h)
  -- bits alone
  | cdcReq v => exact done_operand v .cdcReq h
  | alStepAcquire v => exact done_operand v .alStepAcquire h
  | alStepHit v => exact done_operand v .alStepHit h
  | alStepMiss v => exact done_operand v .alStepMiss h
  | alStepNone v => exact done_operand v .alStepNone h
  | dec10Ok v => exact done_operand v .dec10Ok h
  | dec10Disp v => exact done_operand v .dec10Disp h
  | dec10Code v => exact done_operand v .dec10Code h
  | dec10Acq v => exact done_operand v .dec10Acq h
  | enc10D v => exact done_operand v .enc10D h
  | enc130D v => exact done_operand v .enc130D h
  | enc130Os v => exact done_operand v .enc130Os h
  | paCmdmap v => exact done_operand v .paCmdmap h
  -- bits with a part that the row fixes
  | dec130D d => exact block_operand d (k := 2) (by decide) .dec130D h
  | dec130Os d => exact block_operand d (k := 1) (by decide) .dec130Os h
  | dec130Badsync00 d => exact block_operand d (k := 0) (by decide) .dec130Badsync00 h
  | dec130Badsync11 d => exact block_operand d (k := 3) (by decide) .dec130Badsync11 h
  | enc10K b => exact control_operand b .enc10K h
  | enc10Kinv b => exact control_operand b .enc10Kinv h
  | paTxmap d k e => exact flags_operand d k e .paTxmap h
  -- a record or a slot
  | ebDelete r => exact rec_operand r .ebDelete h
  | ebOverflow r => exact rec_operand r .ebOverflow h
  | ebWrite r => exact rec_operand r .ebWrite h
  | ebInsert s => exact slot_operand s .ebInsert h
  | ebRead s => exact slot_operand s .ebRead h
  | paRxmap v r => exact rec_valid_operand v r .paRxmap h
  -- a record of one of the two scramblers
  | ostStep p r => exact rec_inst_operand p r .ostStep h
  | scr8Err p r => exact rec_inst_operand p r .scr8Err h
  | scr128Data p r => exact rec_inst_operand p r .scr128Data h
  | scr128Eieos p r => exact rec_inst_operand p r .scr128Eieos h
  | scr128Skp p r => exact rec_inst_operand p r .scr128Skp h
  | scr128Os p r => exact rec_inst_operand p r .scr128Os h
  | scr128Err p r => exact rec_inst_operand p r .scr128Err h
  | scr8Com p r =>
    obtain ⟨htag, -⟩ := Bool.and_eq_true_iff.1 h
    exact sym9_inst_operand (by decide) p (tag_of_sym9 htag) .scr8Com h
  | scr8Skp p r =>
    obtain ⟨htag, -⟩ := Bool.and_eq_true_iff.1 h
    exact sym9_inst_operand (by decide) p (tag_of_sym9 htag) .scr8Skp h
  | scr8Ctl p r =>
    obtain ⟨hcom, -⟩ := Bool.and_eq_true_iff.1 h
    obtain ⟨htag, -⟩ := Bool.and_eq_true_iff.1 hcom
    exact sym9_inst_operand (by decide) p (tag_of_sym9 htag) .scr8Ctl h
  | scr8Bypass p r => exact sym9_inst_operand (by decide) p (tag_of_sym9 h) .scr8Bypass h
  | scr8Data p r => exact sym9_inst_operand (by decide) p (tag_of_sym9 h) .scr8Data h

/-- Settles O14: the row tag selects the row, and the row reads its own format. -/
theorem encodeDecodeRoundTrip : Obligations.EncodeDecodeRoundTrip := fun i h =>
  (decode_encode_eq_row (encodingFits i)).trans (row_formatBits h)

end Sys2Proof.Decoding
end

section
/-! PROOF. Words written out from the formats (R92 to R102, R115, R118, R184). -/

namespace Sys2Proof.Decoding

-- one theorem at a time: elaborated side by side they outgrow the checker's memory
set_option Elab.async false

/-- The bare patterns of the opcode table, by the row that has most fixed bits (log entry 2). -/
theorem barePatterns_decode :
    decodeTableWord 16 0x1BC = some (.scr8Com .scr (SymRec.good true 0xBC)) ∧
    decodeTableWord 16 0x11C = some (.scr8Skp .scr (SymRec.good true 0x1C)) ∧
    decodeTableWord 128 0xFF00FF00FF00FF00FF00FF00FF00FF00 =
      some (.scr128Eieos .scr (SymRec.good true eieosPay)) ∧
    decodeTableWord 8 0xAA = some (.scr128Skp .scr (SymRec.good true 0xAA)) ∧
    decodeTableWord 8 0b1001011 = some .rxdStart ∧
    decodeTableWord 8 0b1000011 = some .rxdStart ∧
    decodeTableWord 136 (4 * 0x5A + 0b10) = some (.dec130D 0x5A) ∧
    decodeTableWord 136 (4 * 0x5A + 0b01) = some (.dec130Os 0x5A) ∧
    decodeTableWord 136 (4 * 0xFF00FF00FF00FF00FF00FF00FF00FF00 + 0b01) = some (.dec130Os eieosPay) := by
  decide +kernel

/-- Operation words: the row tag selects the row, and bits that its mask does not examine are not read. -/
theorem operationWords_decode :
    decodeTableWord 160 (2 ^ 152 * 6 + 0b1100) = some (.rxcmdDecreset .c128b130b) ∧
    decodeTableWord 160 (2 ^ 152 * 4 + 0b0111) = some .rxcmdRealign ∧
    decodeTableWord 160 (2 ^ 152 * 60 + 0b0011011) = some .ctlHardreset ∧
    decodeTableWord 160 (2 ^ 152 * 51 + 0x1BC) = some (.enc10K 0xBC) ∧
    decodeTableWord 160 (2 ^ 152 * 72 + 0b1100000) = some (.ctlRate 2) := by
  decide +kernel

/-- Tag 3 of a record and cause 7 are refused (R115; log entry 12). -/
theorem reservedCodes_refused :
    decodeTableWord 160 (2 ^ 152 * 26 + 3 * 2 ^ 128) = none ∧
    decodeTableWord 160 (2 ^ 152 * 73 + 7) = none := by
  decide +kernel

/-- Settles O15: closed words, each read by evaluating the decoder. -/
theorem sampleWordsDecode : Obligations.SampleWordsDecode := by
  obtain ⟨hcom, hskp, heieos, hskp128, hstart, hstart', hdata, hos, hblock⟩ := barePatterns_decode
  obtain ⟨hdecreset, hrealign, hhard, henc, hrate⟩ := operationWords_decode
  exact ⟨hcom, hskp, heieos, hskp128, hdecreset, hrealign, hhard, hstart, hstart', hdata, hos, hblock, henc, hrate,
    reservedCodes_refused⟩

end Sys2Proof.Decoding
end

section
/-! PROOF. What the RXCTL command bits and the adapter's operations make of the whole state (R233 to R235, R341 to
R344), and the order of the receive status (R342). -/

namespace Sys2Proof.Machine

-- one theorem at a time: elaborated side by side they outgrow the checker's memory
set_option Elab.async false

/-- Settles O24: the named operations are the updates of the components that the statement writes out. -/
theorem commandBitResults : Obligations.CommandBitResults := fun _ => ⟨rfl, rfl, fun _ => rfl⟩

theorem txRecord_eq (c : Codec) (d : Payload) (k : Bool) :
    txRecord c d k =
      { data := if c = .c8b10b then (d.setWidth 8).setWidth 128 else d
        tag := if k then .control else .data, ek := .none, dl := false, ins := false } := by
  cases c <;> rfl

/-- `PA.TXMAP` drives a valid record exactly in ACTIVE without transmit idle (R343). -/
theorem exec_paTxmap (d : Payload) (k e : Bool) (s : State) :
    exec (.paTxmap d k e) s = .next (s.setNet { s.net with
      txValid := decide (s.ctl.state = .active ∧ e = false), txRec := txRecord s.lc.codec d k }) := by
  have hvalid : (s.ctl.state == .active && !e) = decide (s.ctl.state = .active ∧ e = false) := by
    cases e <;> cases s.ctl.state <;> rfl
  rw [← hvalid]
  rfl

/-- Settles O58: only the transmit record needs the cases of the codec. -/
theorem adapterResults : Obligations.AdapterResults := by
  intro s
  refine ⟨fun _ => rfl, fun _ => rfl, ⟨_, rfl, rfl⟩, fun d k e => ?_, fun _ => rfl⟩
  rw [exec_paTxmap, txRecord_eq]
  rfl

/-- Settles O59: each clause decides the conditions that `rxStatusOf` tests, up to its own. -/
theorem statusPriority : Obligations.StatusPriority := by
  intro v r ovf unf det code disp st
  have hcode : (v && r.tag == .error && r.ek == .code) = decide code := by
    simp only [code, Bool.decide_and, Bool.decide_eq_true, Bool.and_assoc]; rfl
  have hdisp : (v && r.tag == .error && r.ek == .disp) = decide disp := by
    simp only [disp, Bool.decide_and, Bool.decide_eq_true, Bool.and_assoc]; rfl
  have hst : st = (if code then RxStatus.decodeError else if ovf then .overflow else if unf then .underflow
      else if disp then .disparityError else if v && r.ins then .skpAdded else if v && r.dl then .skpRemoved
      else if det then .receiverDetected else .ok).num := by
    simp only [st, rxStatusOf, hcode, hdisp, decide_eq_true_eq]
  rw [hst]
  refine ⟨fun h => ?_, fun h ho => ?_, fun h ho hu => ?_, fun h ho hu hd => ?_, fun h ho hu hd hv hi => ?_,
    fun h ho hu hd hv hi hl => ?_, fun h ho hu hd hv ht => ?_, fun h ho hu hd hv ht => ?_⟩
  · simp [h, RxStatus.num]
  · simp [h, ho, RxStatus.num]
  · simp [h, ho, hu, RxStatus.num]
  · simp [h, ho, hu, hd, RxStatus.num]
  · simp [h, ho, hu, hd, hv, hi, RxStatus.num]
  · simp [h, ho, hu, hd, hv, hi, hl, RxStatus.num]
  · cases v <;> simp_all [RxStatus.num]
  · cases v <;> simp_all [RxStatus.num]

end Sys2Proof.Machine
end

section
/-! PROOF. The RXCTL request over a CORE edge (R229, R230, R236). -/

namespace Sys2Proof.Machine

-- one theorem at a time: elaborated side by side they outgrow the checker's memory
set_option Elab.async false

/-- What a state operation makes of the request and its command word, with the condition of each case. -/
inductive RequestResult (s : State) : CdcCore → Prop
  | kept : RequestResult s s.cdc
  | raised {cmd : BitVec 4} : s.cdc.req = false → s.sync.ackC2 = false →
      cmd = resetCommand s.want ∨ cmd = flushCommand s.want → RequestResult s { req := true, cmd := cmd }
  | lowered : s.sync.ackC2 = true → RequestResult s { s.cdc with req := false }

theorem selected_request {s : State} {i : Instr} (h : CtlSelected s i) : RequestResult s (after i s).cdc := by
  cases h with
  | resetReq _ hreq hack => exact .raised hreq hack (.inl rfl)
  | powerdown _ hreq hack => exact .raised hreq hack (.inr rfl)
  | close _ _ hack | detectOk _ hack | powerup _ hack => exact .lowered hack
  | done | timeout | fatal | rate | resetDone | alignOk | configureOk | idleAck | idleChange | stay => exact .kept

/-- The wires are no matter of the request. -/
theorem RequestResult.of_setNet {s : State} {w : Nets} {c : CdcCore} (h : RequestResult (s.setNet w) c) :
    RequestResult s c := by
  cases h with
  | kept => exact .kept
  | raised hreq hack hcmd => exact .raised hreq hack hcmd
  | lowered hack => exact .lowered hack

/-- A CORE edge leaves the request of its state operation, from the request and the acknowledge before it. -/
theorem coreEdge_request {s t : State} (hr : s.inp.mac.resetN = true) (h : coreEdge s = .next t) :
    RequestResult s t.cdc := by
  obtain ⟨w, k, d, hw⟩ := wired_eq s
  rw [coreEdge_run hr, hw] at h
  cases h
  exact (selected_request (selectCtl_selected _)).of_setNet

/-- Settles O56: the three cases of the request. -/
theorem requestDiscipline : Obligations.RequestDiscipline := by
  intro s t hr h
  have hreq := coreEdge_request hr h
  generalize t.cdc = c at hreq ⊢
  cases hreq with
  | kept =>
    exact ⟨fun h0 h1 => absurd (h0.symm.trans h1) (by simp), fun h1 h0 => absurd (h1.symm.trans h0) (by simp),
      fun hne => absurd rfl hne⟩
  | raised hreq hack hcmd =>
    exact ⟨fun _ _ => ⟨hack, hcmd⟩, fun _ h0 => Bool.noConfusion h0, fun _ => ⟨hreq, rfl⟩⟩
  | lowered hack =>
    exact ⟨fun _ h1 => Bool.noConfusion h1, fun _ _ => hack, fun hne => absurd rfl hne⟩

end Sys2Proof.Machine
end

section
/-! PROOF. What READY and ACTIVE gate: the outputs toward the MAC and the transmit path (R112, R316, R343, R350). -/

namespace Sys2Proof.Machine

-- one theorem at a time: elaborated side by side they outgrow the checker's memory
set_option Elab.async false

theorem ready_iff (s : State) : s.ready = true ↔ s.ctl.state = .active := by
  unfold State.ready
  cases s.ctl.state <;> decide

/-- The outputs show data only while READY, and zeros otherwise. -/
theorem defaultOutputs_gated (s : State) :
    ((defaultOutputs s).rxValid = true → (defaultOutputs s).ready = true ∧ (defaultOutputs s).ctlState = 4) ∧
      ((defaultOutputs s).rxValid = false → (defaultOutputs s).rxData = 0 ∧ (defaultOutputs s).rxDatak = false) := by
  constructor
  · intro hv
    have hready : s.ready = true := (Bool.and_eq_true_iff.1 hv).1
    have hcode : (defaultOutputs s).ctlState = BitVec.ofNat 3 s.ctl.state.num := rfl
    rw [hcode, (ready_iff s).1 hready]
    exact ⟨hready, rfl⟩
  · intro hv
    have hv : s.rxValid = false := hv
    have hdata : (defaultOutputs s).rxData = if s.rxValid then s.pa.rxData else 0 := rfl
    have hk : (defaultOutputs s).rxDatak = (s.rxValid && s.pa.rxK) := rfl
    rw [hdata, hk, hv]
    exact ⟨rfl, rfl⟩

/-- A scrambler holds no symbol after an edge without data flow, or without a valid input (R251 to R253). -/
theorem scrambler_silent {n : State} {p : ScrInst} (h : dataflow n.ctl.state = false ∨ n.inValid p = false) :
    ((afterAll (selectScr n p) n).inst p).outValid = false := by
  unfold selectScr
  cases hd : dataflow n.ctl.state with
  | false =>
    rw [if_neg Bool.false_ne_true, afterAll_cons, afterAll_nil, after_scrStop_inst]
  | true =>
    have hin : n.inValid p = false := h.resolve_left (by simp [hd])
    rw [if_pos rfl, hin, if_neg Bool.false_ne_true, afterAll_cons, afterAll_cons, afterAll_nil,
      after_scrBubble_inst]

/-- In RESET and TRANSITION the encoder is reset (R161, R173). -/
theorem selectEncode_reset {n : State} (h : n.ctl.state = .reset ∨ n.ctl.state = .transition) :
    selectEncode n = .encReset := if_pos h

/-- The transmit record is valid on the wires exactly in ACTIVE without transmit idle (R343). -/
theorem wired_txValid (s : State) : s.wired.net.txValid = (s.ctl.state == .active && !s.inp.mac.txElecidle) := rfl

/-- Settles O60: `defaultOutputs_gated`, and what the scramblers and the encoder hold after the edge. -/
theorem outputsGatedByReady : Obligations.OutputsGatedByReady := by
  refine ⟨defaultOutputs_gated, fun s t hr h => ?_⟩
  rw [coreEdge_run hr] at h
  cases h
  refine ⟨fun hv => ?_, fun hd => ⟨scrambler_silent (p := .scr) (.inl hd), scrambler_silent (p := .dsc) (.inl hd)⟩,
    fun hq => ?_⟩
  · have hvalid : s.wired.net.txValid = true := by
      by_contra hn
      have hsilent := scrambler_silent (n := s.wired) (p := .scr) (.inr (Bool.eq_false_iff.2 hn))
      exact absurd (hv.symm.trans hsilent) (by simp)
    rw [wired_txValid, Bool.and_eq_true_iff, beq_iff_eq, Bool.not_eq_true'] at hvalid
    exact hvalid
  · have henc : s.wired.afterCore.enc = (after (selectEncode s.wired) s.wired).enc := rfl
    rw [henc, selectEncode_reset (n := s.wired) hq]
    exact ⟨rfl, rfl⟩

end Sys2Proof.Machine
end

section
/-! PROOF. Every operation an edge selects has the operands of its row (R119, R163, R295, R342). -/

namespace Sys2Proof.Machine

-- one theorem at a time: elaborated side by side they outgrow the checker's memory
set_option Elab.async false

/-- A filler of the codec in use is one of some codec (R196). -/
theorem fillerInSomeCodec_of {t : Tag} {d : Payload} {c : Codec} (h : isFiller t d c = true) :
    fillerInSomeCodec t d = true := by
  cases c <;> simp [fillerInSomeCodec, h]

-- Agent RX

theorem selectWrite_wellFormed {s : State} (h : DecoderInv s) : (selectWrite s).wellFormed = true := by
  have hsel := selectWrite_selected s
  generalize selectWrite s = i at hsel
  cases hsel with
  | flush | idle => rfl
  | delete _ hv hfiller => exact Bool.and_eq_true_iff.2 ⟨h.record hv, fillerInSomeCodec_of hfiller⟩
  | overflow _ hv | write _ hv => exact h.record hv

/-- No row of the aligner puts a condition on its word. -/
theorem selectAlign_wellFormed (s : State) : ∀ i ∈ selectAlign s, i.wellFormed = true := by
  have htimeout : ∀ i ∈ selectTimeout s, i.wellFormed = true := by
    unfold selectTimeout
    split <;> simp [Instr.wellFormed]
  unfold selectAlign
  split
  · simp [Instr.wellFormed]
  · split
    · split <;> simp [Instr.wellFormed]
    · split
      · simp [Instr.wellFormed]
      · split <;> exact List.forall_mem_cons.2 ⟨rfl, htimeout⟩

theorem selectDec10_wellFormed (s : State) (v : Line10) : (selectDec10 s v).wellFormed = true := by
  unfold selectDec10
  split
  · split
    next hown => cases hrd : s.dec.rd <;> rw [hrd] at hown <;> simp [Instr.wellFormed, inColumn, hown]
    next hown =>
      split
      next hother =>
        cases hrd : s.dec.rd <;> rw [hrd] at hown hother <;> rw [Code10.flip] at hother <;>
          simp [Instr.wellFormed, inColumn, hown, hother]
      next hother =>
        cases hrd : s.dec.rd <;> rw [hrd] at hown hother <;> rw [Code10.flip] at hother <;>
          simp [Instr.wellFormed, inColumn, hown, hother]
  · rfl

theorem selectDec130_wellFormed (b : Block) : (selectDec130 b).wellFormed = true := by
  unfold selectDec130
  split
  · rfl
  · split
    · rfl
    · split <;> rfl

theorem selectDecode_wellFormed (s : State) : (selectDecode s).wellFormed = true := by
  unfold selectDecode
  split
  · rfl
  · split
    · split
      · exact selectDec10_wellFormed s _
      · exact selectDec130_wellFormed _
    · rfl

/-- A list of at most one operation, without a condition on its operands. -/
theorem wellFormed_if {b : Bool} {j : Instr} (hj : j.wellFormed = true) :
    ∀ i ∈ (if b then [j] else []), i.wellFormed = true := by
  cases b <;> simp [hj]

theorem selectRx_wellFormed {s : State} (h : DecoderInv s) : ∀ i ∈ selectRx s, i.wellFormed = true := by
  simp only [selectRx, List.forall_mem_append, List.forall_mem_singleton, List.forall_mem_cons]
  exact ⟨⟨⟨⟨⟨⟨selectWrite_wellFormed h, selectAlign_wellFormed s⟩, wellFormed_if rfl⟩, wellFormed_if rfl⟩,
    selectDecode_wellFormed s⟩, wellFormed_if rfl⟩, rfl, rfl⟩

-- Agent CORE

theorem selectEncode_wellFormed (s : State) : (selectEncode s).wellFormed = true := by
  unfold selectEncode
  split
  · rfl
  · split
    · split
      · split
        · split
          next hk => exact hk
          next hk => simpa [Instr.wellFormed] using hk
        · rfl
      · split <;> rfl
    · rfl

theorem selectScr8_wellFormed (s : State) {p : ScrInst} {r : SymRec} (h : r.fedTo p = true) :
    (selectScr8 s p r).wellFormed = true := by
  unfold selectScr8
  split
  next ht =>
    split
    next hcom => simp [Instr.wellFormed, h, ht, hcom]
    next hcom => split <;> simp_all [Instr.wellFormed]
  next ht => simp [Instr.wellFormed, h, ht]
  next ht => split <;> simp [Instr.wellFormed, h, ht]

theorem selectScr128_wellFormed {p : ScrInst} {r : SymRec} (h : r.fedTo p = true) :
    (selectScr128 p r).wellFormed = true := by
  unfold selectScr128
  split
  next ht => simp [Instr.wellFormed, h, ht]
  next ht =>
    split
    next heieos => simp [Instr.wellFormed, h, ht, heieos]
    next heieos => split <;> simp_all [Instr.wellFormed]
  next ht => simp [Instr.wellFormed, h, ht]

theorem selectScr_wellFormed {s : State} {p : ScrInst} (h : s.inValid p = true → (s.inRec p).fedTo p = true) :
    ∀ i ∈ selectScr s p, i.wellFormed = true := by
  unfold selectScr
  split
  · refine List.forall_mem_cons.2 ⟨rfl, ?_⟩
    split
    next hv =>
      have hfed := h hv
      split
      · exact List.forall_mem_cons.2 ⟨hfed, List.forall_mem_singleton.2 (selectScr8_wellFormed s hfed)⟩
      · exact List.forall_mem_singleton.2 (selectScr128_wellFormed hfed)
    · exact List.forall_mem_singleton.2 rfl
  · exact List.forall_mem_singleton.2 rfl

theorem selectRead_wellFormed {s : State} (h : MemoryInv s) : (selectRead s).wellFormed = true := by
  have hsel := selectRead_selected s
  generalize selectRead s = i at hsel
  cases hsel with
  | flush | prime | start | underflow => rfl
  | insert _ hfiller => exact Bool.and_eq_true_iff.2 ⟨head_kindFits h, fillerInSomeCodec_of hfiller⟩
  | read => exact head_kindFits h

theorem selectExit_wellFormed {s : State} (hf : s.fatal = .none) : (selectExit s).wellFormed = true := by
  have hsel := selectExit_selected hf
  generalize selectExit s = i at hsel
  cases hsel with
  | fatal _ hne => exact absurd hf hne
  | _ => rfl

/-- A cause that `CTL.FATAL` records (R295, R366). -/
theorem ctlFatal_wellFormed {s : State} (hn : s.fatal ≠ .none) (ht : s.fatal ≠ .commandTimeout) :
    (Instr.ctlFatal s.fatal).wellFormed = true := by
  have hcode := fatal_ne_codecDecodeError s
  generalize s.fatal = c at *
  cases c with
  | none | codecDecodeError | commandTimeout => contradiction
  | alignmentLost | bufferOverflow | bufferUnderflow | scramblerDesync => rfl

theorem selectCtl_wellFormed (s : State) : (selectCtl s).wellFormed = true := by
  unfold selectCtl
  split
  · split
    · split <;> rfl
    · rfl
  · split
    · rfl
    next ht =>
      split
      next hn => exact ctlFatal_wellFormed hn ht
      next hn =>
        split
        · rfl
        · exact selectExit_wellFormed (not_not.1 hn)

theorem selectReq_wellFormed (s : State) : ∀ i ∈ selectReq s, i.wellFormed = true := by
  unfold selectReq
  split <;> simp [Instr.wellFormed]

theorem selectRxd_wellFormed (s : State) : ∀ i ∈ selectRxd s, i.wellFormed = true := by
  unfold selectRxd
  split
  · split <;> simp [Instr.wellFormed]
  · split
    · simp [Instr.wellFormed]
    · split <;> simp [Instr.wellFormed]

/-- `PA.RXMAP` reads its record only with the valid bit (R341). -/
theorem paRxmap_wellFormed {s : State} (h : ScramblerInv .dsc s.dsc) :
    (Instr.paRxmap s.dsc.outValid s.dsc.out).wellFormed = true := by
  cases hv : s.dsc.outValid with
  | false => rfl
  | true => exact (fedTo_dsc _).symm.trans (h.record hv)

theorem selectCore_wellFormed {s : State} (h : EngineInv s) : ∀ i ∈ selectCore s, i.wellFormed = true := by
  simp only [selectCore, List.forall_mem_append, List.forall_mem_singleton, List.forall_mem_cons]
  have hscr := selectScr_wellFormed (s := s) (p := .scr) h.transmit.record
  have hdsc := selectScr_wellFormed (s := s) (p := .dsc) fun hv => (fedTo_dsc _).trans (h.read.record hv)
  exact ⟨⟨⟨⟨⟨⟨⟨rfl, rfl, paRxmap_wellFormed h.descrambler, selectEncode_wellFormed s⟩, hscr⟩, hdsc⟩,
    selectRead_wellFormed h.memory, rfl, rfl, selectCtl_wellFormed s⟩, selectReq_wellFormed s⟩,
    selectRxd_wellFormed s⟩, rfl, rfl⟩

/-- Settles O13: each component's selection, under the part of the invariant that its operands come from. -/
theorem selectedOperationsAreWellFormed : Obligations.SelectedOperationsAreWellFormed := fun s h =>
  ⟨selectRx_wellFormed h.decoder, by simp [selectNets, Instr.wellFormed], selectCore_wellFormed h,
    by simp [selectHardReset, Instr.wellFormed]⟩

end Sys2Proof.Machine
end

section
/-! PROOF. The edges that `withFetchWord` arranges, and the operations of the RX side that they perform (R118, R119,
R134, R165, R198; log entries 1, 2, 6, 7). -/

namespace Sys2Proof.Machine

-- one theorem at a time: elaborated side by side they outgrow the checker's memory
set_option Elab.async false


-- The edges that `arrange` places

/-- The state at which an RX edge with this word selects its operations. -/
def State.atWord (s : State) (word : Block) : State := (s.setStim []).present (.rx word .now)

/-- The state at which a CORE edge with these inputs selects its operations, the wires included. -/
def State.atPins (s : State) (i : CoreInputs) : State := ((s.setStim []).present (.core i .now)).wired

theorem nextOps_nextRx (s : State) (word : Block) : nextOps (s.nextRx word) = selectRx (s.atWord word) := rfl

/-- Under the default layout and without a hard reset, a CORE edge performs the wires and what it selects. -/
theorem nextOps_core {s : State} {i : CoreInputs} (hv : s.cfg.pipeVersion = .pipeDefault)
    (hr : i.mac.resetN = true) :
    nextOps (s.setStim [.core i .now]) =
      selectNets ((s.setStim []).present (.core i .now)) ++ selectCore (s.atPins i) := by
  have hmac : ((s.setStim []).present (.core i .now)).inp.mac.resetN = true := by
    have hin : ((s.setStim []).present (.core i .now)).inp.mac = layoutIn s.cfg i.mac := rfl
    rw [hin, layoutIn, hv]
    exact hr
  have hops : nextOps (s.setStim [.core i .now]) =
      if ((s.setStim []).present (.core i .now)).inp.mac.resetN then
        selectNets ((s.setStim []).present (.core i .now)) ++ selectCore (s.atPins i)
      else selectHardReset := rfl
  rw [hops, if_pos hmac]

theorem performed_core {s : State} {c : CoreInputs} {i : Instr} (hv : s.cfg.pipeVersion = .pipeDefault)
    (hr : c.mac.resetN = true) (h : i ∈ selectCore (s.atPins c)) : i ∈ nextOps (s.setStim [.core c .now]) := by
  rw [nextOps_core hv hr]
  exact List.mem_append_right _ h

-- What an RX edge performs, component by component

theorem performed_write {s : State} {word : Block} {i : Instr} (h : selectWrite (s.atWord word) = i) :
    i ∈ nextOps (s.nextRx word) := by
  simp [nextOps_nextRx, selectRx, h]

theorem performed_align {s : State} {word : Block} {i : Instr} (h : i ∈ selectAlign (s.atWord word)) :
    i ∈ nextOps (s.nextRx word) := by
  simp [nextOps_nextRx, selectRx, h]

theorem performed_decode {s : State} {word : Block} {i : Instr} (h : selectDecode (s.atWord word) = i) :
    i ∈ nextOps (s.nextRx word) := by
  simp [nextOps_nextRx, selectRx, h]

-- What a CORE edge performs, component by component

theorem selectScr_subset_selectCore {s : State} {p : ScrInst} {i : Instr} (h : i ∈ selectScr s p) :
    i ∈ selectCore s := by
  cases p <;> simp [selectCore, h]

-- The write side

theorem default_bufferDepth : Params.default.bufferDepth = 16 := rfl
theorem default_pb : Params.default.pb = 5 := by decide
theorem default_ebHigh : Params.default.ebHigh = 12 := by decide

/-- With the pointers in step, the fill view is the difference that was placed. -/
theorem subMod_zero {n x : Nat} (h : x < 2 ^ n) : subMod n x 0 = x := by
  rw [subMod, Nat.zero_mod, Nat.sub_zero, Nat.add_mod_right, Nat.mod_eq_of_lt h]

theorem decoded_fillW (r : SymRec) (c : Codec) (word : Block) {fill : Nat} (h : fill < 32) :
    ((State.reset.decoded r c fill).atWord word).fillW = fill := by
  have hfill : ((State.reset.decoded r c fill).atWord word).fillW =
      subMod Params.default.pb fill (ungray Params.default.pb 0) := rfl
  have hzero : ungray 5 0 = 0 := rfl
  rw [hfill, default_pb, hzero, subMod_zero h]

/-- The codec under which a record is a filler, where there is one (R196). -/
theorem isFiller_fillerCodec {t : Tag} {d : Payload} (h : fillerInSomeCodec t d = true) :
    isFiller t d (fillerCodec t d) = true := by
  unfold fillerCodec
  split
  · assumption
  next hne => exact (Bool.or_eq_true_iff.1 h).resolve_left hne

/-- The write side with a record and without a flush (R198). -/
theorem selectWrite_of_record {s : State} (hf : s.commanded 1 = false) (hv : s.dec.outValid = true) :
    selectWrite s =
      if isFiller s.dec.out.tag s.dec.out.data s.rcfgCodec = true ∧ s.cfg.ebHigh ≤ s.fillW ∧
        s.fillW ≤ s.cfg.bufferDepth - 2 then .ebDelete s.dec.out
      else if s.cfg.bufferDepth ≤ s.fillW then .ebOverflow s.dec.out
      else .ebWrite s.dec.out := by
  rw [selectWrite, hf, hv]
  rfl

/-- The write side at a placed record and fill, with the thresholds of the default depth of sixteen. -/
theorem selectWrite_decoded (r : SymRec) (c : Codec) {fill : Nat} (h : fill < 32) :
    selectWrite ((State.reset.decoded r c fill).atWord 0) =
      if isFiller r.tag r.data c = true ∧ 12 ≤ fill ∧ fill ≤ 14 then .ebDelete r
      else if 16 ≤ fill then .ebOverflow r
      else .ebWrite r := by
  have hsel := selectWrite_of_record (s := (State.reset.decoded r c fill).atWord 0) rfl rfl
  have hcfg : ((State.reset.decoded r c fill).atWord 0).cfg = Params.default := rfl
  rw [decoded_fillW r c 0 h, hcfg, default_ebHigh, default_bufferDepth] at hsel
  exact hsel

theorem performed_ebDelete {r : SymRec} (h : fillerInSomeCodec r.tag r.data = true) :
    .ebDelete r ∈ nextOps (arrange (.ebDelete r) State.reset) :=
  performed_write ((selectWrite_decoded r _ (fill := 12) (by decide)).trans
    (if_pos ⟨isFiller_fillerCodec h, by decide, by decide⟩))

theorem performed_ebOverflow (r : SymRec) : .ebOverflow r ∈ nextOps (arrange (.ebOverflow r) State.reset) :=
  performed_write ((selectWrite_decoded r _ (fill := 16) (by decide)).trans (by simp))

theorem performed_ebWrite (r : SymRec) : .ebWrite r ∈ nextOps (arrange (.ebWrite r) State.reset) :=
  performed_write ((selectWrite_decoded r _ (fill := 0) (by decide)).trans (by simp))

-- The decoder

/-- The decoder of a line symbol in codec `C8B10B` at a known or an unknown disparity. -/
theorem selectDecode_heard (v : Line10) (rd : Rd) (known : Bool) :
    selectDecode (((State.reset.delivers .c8b10b (v.setWidth 130)).disparity rd known).atWord 0) =
      if known then
        if (Code10.decCol rd v).isSome then .dec10Ok v
        else if (Code10.decCol (Code10.flip rd) v).isSome then .dec10Disp v
        else .dec10Code v
      else .dec10Acq v := by
  have hsym : (v.setWidth 130).setWidth 10 = v := by
    apply BitVec.eq_of_toNat_eq
    have h := v.isLt
    simp only [BitVec.toNat_setWidth]
    omega
  have hsel : selectDecode (((State.reset.delivers .c8b10b (v.setWidth 130)).disparity rd known).atWord 0) =
      selectDec10 (((State.reset.delivers .c8b10b (v.setWidth 130)).disparity rd known).atWord 0)
        ((v.setWidth 130).setWidth 10) := rfl
  rw [hsel, hsym]
  rfl

theorem performed_dec10Ok {v : Line10} (h : (Instr.dec10Ok v).wellFormed = true) :
    .dec10Ok v ∈ nextOps (arrange (.dec10Ok v) State.reset) := by
  have hcol : (Code10.decCol (if inColumn .minus v then .minus else .plus) v).isSome = true := by
    cases hm : inColumn .minus v with
    | true => exact hm
    | false => exact (Bool.or_eq_true_iff.1 h).resolve_left (by simp [hm])
  have hsel := selectDecode_heard v (if inColumn .minus v then .minus else .plus) true
  rw [hcol, if_pos rfl, if_pos rfl] at hsel
  exact performed_decode hsel

theorem performed_dec10Disp {v : Line10} (h : (Instr.dec10Disp v).wellFormed = true) :
    .dec10Disp v ∈ nextOps (arrange (.dec10Disp v) State.reset) := by
  obtain ⟨hown, hother⟩ : (Code10.decCol (if inColumn .minus v then .plus else .minus) v).isSome = false ∧
      (Code10.decCol (Code10.flip (if inColumn .minus v then .plus else .minus)) v).isSome = true := by
    cases hm : inColumn .minus v with
    | true =>
      have hp : inColumn .plus v = false := by simpa [Instr.wellFormed, hm] using h
      exact ⟨hp, hm⟩
    | false =>
      have hp : inColumn .plus v = true := by simpa [Instr.wellFormed, hm] using h
      exact ⟨hm, hp⟩
  have hsel := selectDecode_heard v (if inColumn .minus v then .plus else .minus) true
  rw [hown, hother, if_pos rfl, if_neg Bool.false_ne_true, if_pos rfl] at hsel
  exact performed_decode hsel

theorem performed_dec10Code {v : Line10} (h : (Instr.dec10Code v).wellFormed = true) :
    .dec10Code v ∈ nextOps (arrange (.dec10Code v) State.reset) := by
  obtain ⟨hm, hp⟩ : (Code10.decCol .minus v).isSome = false ∧ (Code10.decCol .plus v).isSome = false := by
    simpa [Instr.wellFormed, inColumn] using h
  have hsel := selectDecode_heard v .minus true
  rw [Code10.flip, hm, hp, if_pos rfl, if_neg Bool.false_ne_true, if_neg Bool.false_ne_true] at hsel
  exact performed_decode hsel

theorem performed_dec10Acq (v : Line10) : .dec10Acq v ∈ nextOps (arrange (.dec10Acq v) State.reset) :=
  performed_decode (selectDecode_heard v .minus false)

/-- The sync header and the payload of a block put together from them (R93). -/
theorem block_parts (d : Payload) {k : Nat} (hk : k < 4) :
    Block.sync (BitVec.ofNat 130 (4 * d.toNat + k)) = k ∧ Block.payload (BitVec.ofNat 130 (4 * d.toNat + k)) = d := by
  have hd := d.isLt
  have hnum : (BitVec.ofNat 130 (4 * d.toNat + k)).toNat = 4 * d.toNat + k := by
    rw [BitVec.toNat_ofNat]; omega
  refine ⟨by rw [Block.sync, hnum]; omega, BitVec.eq_of_toNat_eq ?_⟩
  rw [Block.payload, hnum, BitVec.toNat_ofNat]
  omega

/-- The decoder of a block with this payload and sync header. -/
theorem performed_dec130 (d : Payload) {k : Nat} (hk : k < 4) :
    (if k = 2 then Instr.dec130D d else if k = 1 then .dec130Os d else if k = 0 then .dec130Badsync00 d
      else .dec130Badsync11 d) ∈
      nextOps ((State.reset.delivers .c128b130b (BitVec.ofNat 130 (4 * d.toNat + k))).nextRx 0) := by
  obtain ⟨hsync, hpay⟩ := block_parts d hk
  have hsel : selectDecode ((State.reset.delivers .c128b130b (BitVec.ofNat 130 (4 * d.toNat + k))).atWord 0) =
      selectDec130 (BitVec.ofNat 130 (4 * d.toNat + k)) := rfl
  rw [selectDec130, hsync, hpay] at hsel
  exact performed_decode hsel

-- The aligner

/-- A block that starts the previous word with a marker (R132). -/
def markerWord : Codec → Block
  | .c8b10b => 0x7C
  | .c128b130b => eieosBlk

/-- The codec whose raw words the operand is one of: ten bits where it fits. -/
def operandCodec (raw : Block) : Codec := if raw.toNat < 2 ^ 10 then .c8b10b else .c128b130b

theorem atMarker_eq (s : State) (raw : Block) (offset conf : Nat) :
    s.atMarker raw offset conf =
      s.alignerAt (operandCodec raw) (markerWord (operandCodec raw)) offset conf 0 := by
  unfold State.atMarker operandCodec
  split <;> rfl

theorem lt_lineWidth_operandCodec (raw : Block) : raw.toNat < 2 ^ (operandCodec raw).lineWidth := by
  unfold operandCodec
  split
  · assumption
  · exact raw.isLt

theorem rawWord_of_lt {c : Codec} {raw : Block} (h : raw.toNat < 2 ^ c.lineWidth) : rawWord c raw = raw := by
  rw [rawWord, Nat.mod_eq_of_lt h, BitVec.ofNat_toNat, BitVec.setWidth_eq]

theorem mem_hits {c : Codec} {win o : Nat} :
    o ∈ Sys2Proof.hits c win ↔ o < c.lineWidth ∧ marker c (slice win o c.markerWidth) = true := by
  simp [Sys2Proof.hits]

/-- The block marker ends with the sync header of an ordered set (R184). -/
theorem eieosBlk_mod : eieosBlk.toNat % 4 = 1 := by decide

theorem marker_start (c : Codec) (raw : Block) : 0 ∈ Sys2Proof.hits c (window c (markerWord c) raw) := by
  refine mem_hits.2 ⟨by cases c <;> decide, ?_⟩
  cases c with
  | c8b10b =>
    have hslice : slice (window .c8b10b (markerWord .c8b10b) raw) 0 7 = 0x7C := by
      have hword : (markerWord .c8b10b).toNat = 0x7C := rfl
      simp only [slice, window, Codec.lineWidth, hword]
      omega
    exact (congrArg (marker .c8b10b) hslice).trans rfl
  | c128b130b =>
    have hslice : slice (window .c128b130b eieosBlk raw) 0 130 = eieosBlk.toNat := by
      have hlt := eieosBlk.isLt
      simp only [slice, window, Codec.lineWidth]
      omega
    exact beq_iff_eq.2 hslice

/-- No marker starts one bit later (R132). -/
theorem marker_not_next (c : Codec) (raw : Block) : 1 ∉ Sys2Proof.hits c (window c (markerWord c) raw) := by
  intro h
  obtain ⟨-, hm⟩ := mem_hits.1 h
  cases c with
  | c8b10b =>
    have hslice : slice (window .c8b10b (markerWord .c8b10b) raw) 1 7 = 0x3E := by
      have hword : (markerWord .c8b10b).toNat = 0x7C := rfl
      simp only [slice, window, Codec.lineWidth, hword]
      omega
    have hno : marker .c8b10b (slice (window .c8b10b (markerWord .c8b10b) raw) 1 7) = false :=
      (congrArg (marker .c8b10b) hslice).trans rfl
    exact Bool.false_ne_true (hno.symm.trans hm)
  | c128b130b =>
    have hslice : slice (window .c128b130b eieosBlk raw) 1 130 % 2 = 0 := by
      have hodd := eieosBlk_mod
      simp only [slice, window, Codec.lineWidth]
      omega
    have hword : slice (window .c128b130b eieosBlk raw) 1 130 = eieosBlk.toNat := beq_iff_eq.1 hm
    have hodd := eieosBlk_mod
    omega

/-- No block marker starts in a previous word of zeros: it would start with a zero bit. -/
theorem hits_of_zero (raw : Block) : Sys2Proof.hits .c128b130b (window .c128b130b 0 raw) = [] := by
  refine List.eq_nil_iff_forall_not_mem.2 fun o ho => ?_
  obtain ⟨hlt, hm⟩ := mem_hits.1 ho
  have hword : slice (window .c128b130b 0 raw) o 130 = eieosBlk.toNat := beq_iff_eq.1 hm
  have hlt : o < 130 := hlt
  have hwin : window .c128b130b 0 raw / 2 ^ o = 2 * (2 ^ (129 - o) * raw.toNat) := by
    have hraw := raw.isLt
    have hpow : (2 : Nat) ^ 130 = 2 ^ o * (2 * 2 ^ (129 - o)) := by
      rw [← Nat.pow_succ', ← Nat.pow_add]
      congr 1
      omega
    have hval : window .c128b130b 0 raw = 2 ^ 130 * raw.toNat := by
      simp only [window, Codec.lineWidth, Nat.mod_eq_of_lt hraw]
      exact Nat.zero_add _
    rw [hval, hpow, Nat.mul_assoc, Nat.mul_div_cancel_left _ (Nat.two_pow_pos o), Nat.mul_assoc]
  have hodd := eieosBlk_mod
  rw [slice, hwin] at hword
  omega

-- The aligner's dispatch without a realignment (R134)

theorem selectAlign_free {s : State} (h : s.commanded 0 = false) :
    selectAlign s =
      if s.al.conf = 0 then
        if s.hits s.raw = [] then [.alStepNone s.raw] else [.alStepAcquire s.raw]
      else if (s.hits s.raw).contains s.al.offset then [.alStepHit s.raw]
      else if s.hits s.raw = [] then .alStepNone s.raw :: selectTimeout s
      else .alStepMiss s.raw :: selectTimeout s := by
  rw [selectAlign, h]
  rfl

/-- The aligner at a placed codec, previous word and hypothesis, with an operand that is a raw word of it. -/
theorem selectAlign_alignerAt {s : State} {c : Codec} {prev raw : Block} {offset conf since : Nat}
    {found : List Nat} (hs : s = (State.reset.alignerAt c prev offset conf since).atWord raw)
    (hfound : Sys2Proof.hits c (window c prev raw) = found) (h : raw.toNat < 2 ^ c.lineWidth) :
    selectAlign s =
      if conf = 0 then if found = [] then [.alStepNone raw] else [.alStepAcquire raw]
      else if found.contains offset then [.alStepHit raw]
      else if found = [] then .alStepNone raw :: selectTimeout s
      else .alStepMiss raw :: selectTimeout s := by
  subst hs hfound
  have hsel := selectAlign_free (s := (State.reset.alignerAt c prev offset conf since).atWord raw) rfl
  have hraw : ((State.reset.alignerAt c prev offset conf since).atWord raw).raw = raw := rawWord_of_lt h
  rw [hraw] at hsel
  exact hsel

theorem performed_alStepAcquire (raw : Block) :
    .alStepAcquire raw ∈ nextOps (arrange (.alStepAcquire raw) State.reset) := by
  have hsel := selectAlign_alignerAt (prev := markerWord (operandCodec raw)) (offset := 0) (conf := 0) (since := 0)
    rfl rfl (lt_lineWidth_operandCodec raw)
  have hfound := List.ne_nil_of_mem (marker_start (operandCodec raw) raw)
  rw [if_pos rfl, if_neg hfound] at hsel
  rw [arrange, atMarker_eq]
  exact performed_align (hsel ▸ List.mem_singleton_self _)

theorem performed_alStepHit (raw : Block) :
    .alStepHit raw ∈ nextOps (arrange (.alStepHit raw) State.reset) := by
  have hsel := selectAlign_alignerAt (prev := markerWord (operandCodec raw)) (offset := 0) (conf := 1) (since := 0)
    rfl rfl (lt_lineWidth_operandCodec raw)
  rw [if_neg (by decide), if_pos (List.contains_iff_mem.2 (marker_start (operandCodec raw) raw))] at hsel
  rw [arrange, atMarker_eq]
  exact performed_align (hsel ▸ List.mem_singleton_self _)

theorem performed_alStepMiss (raw : Block) :
    .alStepMiss raw ∈ nextOps (arrange (.alStepMiss raw) State.reset) := by
  have hsel := selectAlign_alignerAt (prev := markerWord (operandCodec raw)) (offset := 1) (conf := 1) (since := 0)
    rfl rfl (lt_lineWidth_operandCodec raw)
  have hfound := List.ne_nil_of_mem (marker_start (operandCodec raw) raw)
  have hnext : ¬(Sys2Proof.hits (operandCodec raw) (window (operandCodec raw) (markerWord (operandCodec raw))
      raw)).contains 1 = true := fun h => marker_not_next _ _ (List.contains_iff_mem.1 h)
  rw [if_neg (by decide), if_neg hnext, if_neg hfound] at hsel
  rw [arrange, atMarker_eq]
  exact performed_align (hsel ▸ List.mem_cons_self)

theorem performed_alStepNone (raw : Block) :
    .alStepNone raw ∈ nextOps (arrange (.alStepNone raw) State.reset) := by
  have hsel := selectAlign_alignerAt (c := .c128b130b) (prev := 0) (offset := 0) (conf := 0) (since := 0)
    rfl (hits_of_zero raw) raw.isLt
  rw [if_pos rfl, if_pos rfl] at hsel
  exact performed_align (hsel ▸ List.mem_singleton_self _)

end Sys2Proof.Machine
end

section
/-! PROOF. The operations of the CORE side that an arranged edge performs (R119, R173, R204, R251, R343, R344; log entries
1, 6, 7). -/

namespace Sys2Proof.Machine

-- one theorem at a time: elaborated side by side they outgrow the checker's memory
set_option Elab.async false

-- The read side

theorem default_ebLow : Params.default.ebLow = 4 := by decide

/-- The read side as it runs, without a flush request (R204). -/
theorem selectRead_running {s : State} (hf : s.cdc.req = false) (hr : s.ebr.rdState = .running) :
    selectRead s =
      if s.fillR = 0 ∨ s.cfg.bufferDepth < s.fillR then .ebUnderflow
      else if isFiller s.head.tag s.head.data s.lc.codec = true ∧ s.fillR ≤ s.cfg.ebLow then .ebInsert s.head
      else .ebRead s.head := by
  rw [selectRead, hf, hr]
  rfl

/-- The read side at a placed head and a fill inside the buffer, with the thresholds of the default depth. -/
theorem selectRead_readAt (h : Slot) (c : Codec) (i : CoreInputs) {fill : Nat} (hpos : 0 < fill)
    (hfull : fill ≤ 16) :
    selectRead ((State.reset.readAt h c fill).atPins i) =
      if isFiller h.tag h.data c = true ∧ fill ≤ 4 then .ebInsert h else .ebRead h := by
  have hsel := selectRead_running (s := (State.reset.readAt h c fill).atPins i) rfl rfl
  have hcfg : ((State.reset.readAt h c fill).atPins i).cfg = Params.default := rfl
  have hhead : ((State.reset.readAt h c fill).atPins i).head = h :=
    (Memory.read_write (m := []) (lo := none) 0 0 h rfl).trans (if_pos rfl)
  have hfill : ((State.reset.readAt h c fill).atPins i).fillR = fill := by
    have hview : ((State.reset.readAt h c fill).atPins i).fillR =
        subMod Params.default.pb (ungray Params.default.pb (gray fill)) 0 := rfl
    have hlt : fill < 2 ^ 5 := by omega
    rw [hview, default_pb, ungray_gray hlt, subMod_zero hlt]
  rw [hfill, hcfg, hhead, default_bufferDepth, default_ebLow, if_neg (by omega)] at hsel
  exact hsel

theorem performed_read {s : State} {c : CoreInputs} {i : Instr} (hv : s.cfg.pipeVersion = .pipeDefault)
    (hr : c.mac.resetN = true) (h : selectRead (s.atPins c) = i) : i ∈ nextOps (s.setStim [.core c .now]) :=
  performed_core hv hr (by simp [selectCore, h])

theorem performed_ebInsert {h : Slot} (hf : fillerInSomeCodec h.tag h.data = true) :
    .ebInsert h ∈ nextOps (arrange (.ebInsert h) State.reset) :=
  performed_read rfl rfl ((selectRead_readAt h _ _ (fill := 1) (by decide) (by decide)).trans
    (if_pos ⟨isFiller_fillerCodec hf, by decide⟩))

theorem performed_ebRead (h : Slot) : .ebRead h ∈ nextOps (arrange (.ebRead h) State.reset) :=
  performed_read rfl rfl ((selectRead_readAt h _ _ (fill := 5) (by decide) (by decide)).trans
    (if_neg (by omega)))

-- The encoder

theorem performed_encode {s : State} {c : CoreInputs} {i : Instr} (hv : s.cfg.pipeVersion = .pipeDefault)
    (hr : c.mac.resetN = true) (h : selectEncode (s.atPins c) = i) : i ∈ nextOps (s.setStim [.core c .now]) :=
  performed_core hv hr (by simp [selectCore, h])

/-- The encoder of a placed record in codec `C8B10B` (R173). -/
theorem encodes_byte (r : SymRec) :
    (if r.tag = .control then if Code10.isK r.byte then .enc10K r.byte else .enc10Kinv r.byte
      else .enc10D r.byte) ∈ nextOps (State.reset.encodes r .c8b10b) := performed_encode rfl rfl rfl

/-- The encoder of a placed record in codec `C128B130B` (R188). -/
theorem encodes_block (r : SymRec) :
    (if r.tag = .control then Instr.enc130Os r.data else .enc130D r.data) ∈
      nextOps (State.reset.encodes r .c128b130b) := performed_encode rfl rfl rfl

theorem good_byte (k : Bool) (b : Byte) : (SymRec.good k (b.setWidth 128)).byte = b := by
  apply BitVec.eq_of_toNat_eq
  have h := b.isLt
  simp only [SymRec.byte, SymRec.good, BitVec.toNat_setWidth]
  omega

theorem performed_enc10D (b : Byte) : .enc10D b ∈ nextOps (arrange (.enc10D b) State.reset) := by
  have h := encodes_byte (SymRec.good false (b.setWidth 128))
  rw [good_byte] at h
  exact h

theorem performed_enc10K {b : Byte} (hk : Code10.isK b = true) :
    .enc10K b ∈ nextOps (arrange (.enc10K b) State.reset) := by
  have h := encodes_byte (SymRec.good true (b.setWidth 128))
  rw [good_byte, hk] at h
  exact h

theorem performed_enc10Kinv {b : Byte} (hk : (!Code10.isK b) = true) :
    .enc10Kinv b ∈ nextOps (arrange (.enc10Kinv b) State.reset) := by
  have h := encodes_byte (SymRec.good true (b.setWidth 128))
  rw [good_byte, (Bool.not_eq_true' _).mp hk] at h
  exact h

-- The adapter

theorem performed_paRxmap (v : Bool) (r : SymRec) : .paRxmap v r ∈ nextOps (arrange (.paRxmap v r) State.reset) := by
  let n := (State.reset.setDsc { State.reset.dsc with out := r, outValid := v }).atPins
    { mac := State.reset.quietPins, sigdet := false, rxdetDone := false, rxdetPresent := false }
  have hmem : .paRxmap n.dsc.outValid n.dsc.out ∈ selectCore n := by simp [selectCore]
  exact performed_core (s := State.reset.setDsc { State.reset.dsc with out := r, outValid := v }) rfl rfl hmem

/-- Under the default layout the wires are performed with the pins of the line (R343, R344). -/
theorem performed_nets {s : State} {c : CoreInputs} {i : Instr} (hv : s.cfg.pipeVersion = .pipeDefault)
    (hr : c.mac.resetN = true)
    (h : i = .paCmdmap (commandPins c.mac) ∨ i = .paTxmap c.mac.txData c.mac.txDatak c.mac.txElecidle) :
    i ∈ nextOps (s.setStim [.core c .now]) := by
  have hnets : selectNets ((s.setStim []).present (.core c .now)) =
      [.paCmdmap (commandPins (layoutIn s.cfg c.mac)), .paTxmap (layoutIn s.cfg c.mac).txData
        (layoutIn s.cfg c.mac).txDatak (layoutIn s.cfg c.mac).txElecidle] := rfl
  have hlayout : layoutIn s.cfg c.mac = c.mac := by rw [layoutIn, hv]
  rw [nextOps_core hv hr, hnets, hlayout]
  rcases h with rfl | rfl <;> simp

theorem performed_paTxmap (d : Payload) (k e : Bool) :
    .paTxmap d k e ∈ nextOps (arrange (.paTxmap d k e) State.reset) := performed_nets rfl rfl (.inr rfl)

/-- The seven command pins, taken apart and put together again (R102). -/
theorem commandPins_of_fields : ∀ pins : BitVec 7,
    commandPins
      { resetN := pins.getLsbD 6, rate := pins.extractLsb' 4 2, powerdown := pins.extractLsb' 2 2, txData := 0,
        txDatak := false, txElecidle := pins.getLsbD 1, txDetectrx := pins.getLsbD 0 } = pins := by decide

theorem performed_paCmdmap {pins : BitVec 7} (h : pins.getLsbD 6 = true) :
    .paCmdmap pins ∈ nextOps (arrange (.paCmdmap pins) State.reset) :=
  performed_nets rfl h (.inl (congrArg Instr.paCmdmap (commandPins_of_fields pins).symm))

-- The scramblers

/-- A state at which scrambler `p` is fed the record `r` in codec `c`, with its tracker's count at `cnt`. -/
structure FedAt (n : State) (p : ScrInst) (r : SymRec) (c : Codec) (cnt : Nat) : Prop where
  flows : dataflow n.ctl.state = true
  valid : n.inValid p = true
  input : n.inRec p = r
  codec : n.lc.codec = c
  aft : (n.inst p).aft = false
  count : (n.inst p).cnt = cnt

/-- The record reaches its scrambler: the transmit path carries one byte in codec `C8B10B` (R343). -/
def reaches (p : ScrInst) (r : SymRec) (c : Codec) : Prop :=
  p = .scr → txRecord c r.data (r.tag == .control) = r

theorem fed_fedAt {p : ScrInst} {r : SymRec} {c : Codec} (cnt : Nat) (h : reaches p r c) :
    ∃ n, FedAt n p r c cnt ∧ ∀ i ∈ selectScr n p, i ∈ nextOps (State.reset.fed p r c cnt) := by
  cases p with
  | dsc =>
    refine ⟨_, ?_, fun i hi => performed_core rfl rfl (selectScr_subset_selectCore (p := .dsc) hi)⟩
    exact ⟨rfl, rfl, rfl, rfl, rfl, rfl⟩
  | scr =>
    refine ⟨_, ?_, fun i hi => performed_core rfl rfl (selectScr_subset_selectCore (p := .scr) hi)⟩
    exact ⟨rfl, rfl, h rfl, rfl, rfl, rfl⟩

theorem FedAt.selects_c8b10b {n : State} {p : ScrInst} {r : SymRec} {cnt : Nat} (h : FedAt n p r .c8b10b cnt) :
    selectScr n p = [.scrStart p, .ostStep p r, selectScr8 n p r] := by
  simp only [selectScr, h.flows, h.valid, h.input, h.codec, if_true]

theorem FedAt.selects_c128b130b {n : State} {p : ScrInst} {r : SymRec} {cnt : Nat}
    (h : FedAt n p r .c128b130b cnt) : selectScr n p = [.scrStart p, selectScr128 p r] := by
  simp only [selectScr, h.flows, h.valid, h.input, h.codec, if_true]

/-- The tracker bypasses a record outside an ordered set exactly while it counts (R254). -/
theorem FedAt.bypassed {n : State} {p : ScrInst} {r : SymRec} {c : Codec} {cnt : Nat} (h : FedAt n p r c cnt)
    (ht : r.tag = .data) : (track (n.inst p).aft (n.inst p).cnt r).1 = decide (0 < cnt) := by
  rw [h.aft, h.count]
  by_cases hc : 0 < cnt <;> simp [track, ht, hc]

/-- A record that the transmit path may carry is the adapter's own (R250, R343). -/
theorem txRecord_of_fedTo {c : Codec} {r : SymRec} (h : r.fedTo .scr = true)
    (hdata : c = .c8b10b → (r.data.setWidth 8).setWidth 128 = r.data) :
    txRecord c r.data (r.tag == .control) = r := by
  obtain ⟨data, tag, ek, dl, ins⟩ := r
  have hplain : tag ≠ .error ∧ ek = .none ∧ dl = false ∧ ins = false := by
    simp only [SymRec.fedTo, SymRec.ok, kindFits, beq_iff_eq, bne_iff_ne, Bool.and_eq_true, Bool.or_eq_true,
      Bool.not_eq_true', reduceCtorEq, false_or] at h
    obtain ⟨⟨hkind, -⟩, ⟨htag, hdl⟩, hins⟩ := h
    rw [beq_false_of_ne htag] at hkind
    exact ⟨htag, bne_eq_false_iff_eq.1 hkind.symm, hdl, hins⟩
  obtain ⟨htag, rfl, rfl, rfl⟩ := hplain
  rw [txRecord_eq]
  have hd : (if c = .c8b10b then (data.setWidth 8).setWidth 128 else data) = data := by
    split
    next hc => exact hdata hc
    · rfl
  simp only [hd]
  cases tag with
  | data | control => rfl
  | error => exact absurd rfl htag

theorem reaches_block {p : ScrInst} {r : SymRec} (h : r.fedTo p = true) : reaches p r .c128b130b := by
  rintro rfl
  exact txRecord_of_fedTo h Codec.noConfusion

theorem reaches_byte {p : ScrInst} {r : SymRec} (h : r.fedTo p = true) (hb : p = .scr → r.data.toNat < 256) :
    reaches p r .c8b10b := by
  rintro rfl
  refine txRecord_of_fedTo h fun _ => BitVec.eq_of_toNat_eq ?_
  have hlt := hb rfl
  simp only [BitVec.toNat_setWidth]
  omega

theorem performed_scr8 {p : ScrInst} {r : SymRec} {i : Instr} (cnt : Nat) (h : reaches p r .c8b10b)
    (hi : ∀ n, FedAt n p r .c8b10b cnt → i = .ostStep p r ∨ i = selectScr8 n p r) :
    i ∈ nextOps (State.reset.fed p r .c8b10b cnt) := by
  obtain ⟨n, hn, hperf⟩ := fed_fedAt cnt h
  refine hperf i ?_
  rw [hn.selects_c8b10b]
  rcases hi n hn with rfl | rfl <;> simp

theorem performed_scr128 {p : ScrInst} {r : SymRec} {i : Instr} (h : reaches p r .c128b130b)
    (hi : selectScr128 p r = i) : i ∈ nextOps (State.reset.fed p r .c128b130b 0) := by
  obtain ⟨n, hn, hperf⟩ := fed_fedAt 0 h
  exact hperf i (by simp [hn.selects_c128b130b, hi])

theorem performed_ostStep {p : ScrInst} {r : SymRec} (hw : (Instr.ostStep p r).wellFormed = true)
    (hp : producible Params.default (.ostStep p r) = true) :
    .ostStep p r ∈ nextOps (arrange (.ostStep p r) State.reset) :=
  performed_scr8 0 (reaches_byte hw fun h => by subst h; exact of_decide_eq_true (Bool.and_eq_true_iff.1 hp).2)
    fun _ _ => .inl rfl

theorem performed_scr8Com {p : ScrInst} {r : SymRec} (hw : (Instr.scr8Com p r).wellFormed = true)
    (hp : producible Params.default (.scr8Com p r) = true) :
    .scr8Com p r ∈ nextOps (arrange (.scr8Com p r) State.reset) := by
  obtain ⟨⟨hf, ht⟩, hb⟩ : (r.fedTo p = true ∧ r.tag = .control) ∧ r.byte = 0xBC := by
    simpa [Instr.wellFormed] using hw
  exact performed_scr8 0 (reaches_byte hf fun h => by subst h; exact of_decide_eq_true hp)
    fun _ _ => .inr (by simp [selectScr8, ht, hb])

theorem performed_scr8Skp {p : ScrInst} {r : SymRec} (hw : (Instr.scr8Skp p r).wellFormed = true)
    (hp : producible Params.default (.scr8Skp p r) = true) :
    .scr8Skp p r ∈ nextOps (arrange (.scr8Skp p r) State.reset) := by
  obtain ⟨⟨hf, ht⟩, hb⟩ : (r.fedTo p = true ∧ r.tag = .control) ∧ r.byte = 0x1C := by
    simpa [Instr.wellFormed] using hw
  exact performed_scr8 0 (reaches_byte hf fun h => by subst h; exact of_decide_eq_true hp)
    fun _ _ => .inr (by simp [selectScr8, ht, hb])

theorem performed_scr8Ctl {p : ScrInst} {r : SymRec} (hw : (Instr.scr8Ctl p r).wellFormed = true)
    (hp : producible Params.default (.scr8Ctl p r) = true) :
    .scr8Ctl p r ∈ nextOps (arrange (.scr8Ctl p r) State.reset) := by
  obtain ⟨⟨⟨hf, ht⟩, hcom⟩, hskp⟩ :
      ((r.fedTo p = true ∧ r.tag = .control) ∧ ¬r.byte = 0xBC) ∧ ¬r.byte = 0x1C := by
    simpa [Instr.wellFormed] using hw
  exact performed_scr8 0 (reaches_byte hf fun h => by subst h; exact of_decide_eq_true hp)
    fun _ _ => .inr (by simp only [selectScr8, ht]; rw [if_neg hcom, if_neg hskp])

theorem performed_scr8Bypass {p : ScrInst} {r : SymRec} (hw : (Instr.scr8Bypass p r).wellFormed = true)
    (hp : producible Params.default (.scr8Bypass p r) = true) :
    .scr8Bypass p r ∈ nextOps (arrange (.scr8Bypass p r) State.reset) := by
  obtain ⟨hf, ht⟩ : r.fedTo p = true ∧ r.tag = .data := by simpa [Instr.wellFormed] using hw
  exact performed_scr8 1 (reaches_byte hf fun h => by subst h; exact of_decide_eq_true hp)
    fun _ hn => .inr (by simp [selectScr8, hn.bypassed ht, ht])

theorem performed_scr8Data {p : ScrInst} {r : SymRec} (hw : (Instr.scr8Data p r).wellFormed = true)
    (hp : producible Params.default (.scr8Data p r) = true) :
    .scr8Data p r ∈ nextOps (arrange (.scr8Data p r) State.reset) := by
  obtain ⟨hf, ht⟩ : r.fedTo p = true ∧ r.tag = .data := by simpa [Instr.wellFormed] using hw
  exact performed_scr8 0 (reaches_byte hf fun h => by subst h; exact of_decide_eq_true hp)
    fun _ hn => .inr (by simp [selectScr8, hn.bypassed ht, ht])

theorem performed_scr8Err {p : ScrInst} {r : SymRec} (hw : (Instr.scr8Err p r).wellFormed = true)
    (hp : producible Params.default (.scr8Err p r) = true) :
    .scr8Err p r ∈ nextOps (arrange (.scr8Err p r) State.reset) := by
  obtain ⟨hf, ht⟩ : r.fedTo p = true ∧ r.tag = .error := by simpa [Instr.wellFormed] using hw
  exact performed_scr8 0 (reaches_byte hf fun h => by subst h; exact Bool.noConfusion hp)
    fun _ _ => .inr (by simp [selectScr8, ht])

theorem performed_scr128Data {p : ScrInst} {r : SymRec} (hw : (Instr.scr128Data p r).wellFormed = true) :
    .scr128Data p r ∈ nextOps (arrange (.scr128Data p r) State.reset) := by
  obtain ⟨hf, ht⟩ : r.fedTo p = true ∧ r.tag = .data := by simpa [Instr.wellFormed] using hw
  exact performed_scr128 (reaches_block hf) (by simp [selectScr128, ht])

theorem performed_scr128Eieos {p : ScrInst} {r : SymRec} (hw : (Instr.scr128Eieos p r).wellFormed = true) :
    .scr128Eieos p r ∈ nextOps (arrange (.scr128Eieos p r) State.reset) := by
  obtain ⟨⟨hf, ht⟩, hd⟩ : (r.fedTo p = true ∧ r.tag = .control) ∧ r.data = eieosPay := by
    simpa [Instr.wellFormed] using hw
  exact performed_scr128 (reaches_block hf) (by simp [selectScr128, ht, hd])

theorem performed_scr128Skp {p : ScrInst} {r : SymRec} (hw : (Instr.scr128Skp p r).wellFormed = true) :
    .scr128Skp p r ∈ nextOps (arrange (.scr128Skp p r) State.reset) := by
  obtain ⟨⟨⟨hf, ht⟩, hd⟩, hb⟩ :
      ((r.fedTo p = true ∧ r.tag = .control) ∧ ¬r.data = eieosPay) ∧ r.byte = 0xAA := by
    simpa [Instr.wellFormed] using hw
  exact performed_scr128 (reaches_block hf) (by simp [selectScr128, ht, hd, hb])

theorem performed_scr128Os {p : ScrInst} {r : SymRec} (hw : (Instr.scr128Os p r).wellFormed = true) :
    .scr128Os p r ∈ nextOps (arrange (.scr128Os p r) State.reset) := by
  obtain ⟨⟨⟨hf, ht⟩, hd⟩, hb⟩ :
      ((r.fedTo p = true ∧ r.tag = .control) ∧ ¬r.data = eieosPay) ∧ ¬r.byte = 0xAA := by
    simpa [Instr.wellFormed] using hw
  exact performed_scr128 (reaches_block hf) (by simp only [selectScr128, ht]; rw [if_neg hd, if_neg hb])

theorem performed_scr128Err {p : ScrInst} {r : SymRec} (hw : (Instr.scr128Err p r).wellFormed = true) :
    .scr128Err p r ∈ nextOps (arrange (.scr128Err p r) State.reset) := by
  obtain ⟨hf, ht⟩ : r.fedTo p = true ∧ r.tag = .error := by simpa [Instr.wellFormed] using hw
  exact performed_scr128 (reaches_block hf) (by simp [selectScr128, ht])

end Sys2Proof.Machine
end

section
/-! PROOF. The operation that `withFetchWord` places is performed by the next edge (R118, R119; log entries 1, 2, 6, 7). -/

namespace Sys2Proof.Machine

-- one theorem at a time: elaborated side by side they outgrow the checker's memory
set_option Elab.async false

/-- The next edge after `arrange` performs the operation: by evaluation where the operand has few values or none,
and by the component's selection where it is a word, a record or a slot. -/
theorem arrange_performs {i : Instr} (hw : i.wellFormed = true) (hp : producible Params.default i = true) :
    i ∈ nextOps (arrange i State.reset) := by
  cases i with
  | cdcAck | rxcmdRealign | rxcmdFlush | alReset | alStepTimeout | decReset | decBubble | ebFlushw | ebIdlew
  | ebFlushr | ebPrime | ebStart | ebUnderflow | encReset | encBubble | idlDebounce | rxdDone | rxdClear
  | rxdStart | ctlHardreset | ctlTransitionClose | ctlTransitionDone | ctlResetReq | ctlResetDone | ctlDetectOk
  | ctlAlignOk | ctlConfigureOk | ctlPowerdown | ctlIdleAck | ctlPowerup | ctlIdleChange | ctlTimeout
  | ctlMonitor | ctlCodec | ctlStay | paStatus => decide +kernel
  | cdcSync a => cases a <;> decide +kernel
  | cdcReq cmd => revert cmd; decide +kernel
  | rxcmdDecreset c => cases c <;> decide +kernel
  | scrStop p | scrStart p | scrBubble p => cases p <;> decide +kernel
  | ctlRate rate => revert rate; decide +kernel
  | ctlFatal c => cases c <;> revert hw <;> decide +kernel
  | ctlTick q => cases q <;> decide +kernel
  | alStepAcquire raw => exact performed_alStepAcquire raw
  | alStepHit raw => exact performed_alStepHit raw
  | alStepMiss raw => exact performed_alStepMiss raw
  | alStepNone raw => exact performed_alStepNone raw
  | dec10Ok v => exact performed_dec10Ok hw
  | dec10Disp v => exact performed_dec10Disp hw
  | dec10Code v => exact performed_dec10Code hw
  | dec10Acq v => exact performed_dec10Acq v
  | dec130D d => exact performed_dec130 d (k := 2) (by decide)
  | dec130Os d => exact performed_dec130 d (k := 1) (by decide)
  | dec130Badsync00 d => exact performed_dec130 d (k := 0) (by decide)
  | dec130Badsync11 d => exact performed_dec130 d (k := 3) (by decide)
  | ebDelete r => exact performed_ebDelete (Bool.and_eq_true_iff.1 hw).2
  | ebOverflow r => exact performed_ebOverflow r
  | ebWrite r => exact performed_ebWrite r
  | ebInsert h => exact performed_ebInsert (Bool.and_eq_true_iff.1 hw).2
  | ebRead h => exact performed_ebRead h
  | ostStep p r => exact performed_ostStep hw hp
  | scr8Com p r => exact performed_scr8Com hw hp
  | scr8Skp p r => exact performed_scr8Skp hw hp
  | scr8Ctl p r => exact performed_scr8Ctl hw hp
  | scr8Bypass p r => exact performed_scr8Bypass hw hp
  | scr8Data p r => exact performed_scr8Data hw hp
  | scr8Err p r => exact performed_scr8Err hw hp
  | scr128Data p r => exact performed_scr128Data hw
  | scr128Eieos p r => exact performed_scr128Eieos hw
  | scr128Skp p r => exact performed_scr128Skp hw
  | scr128Os p r => exact performed_scr128Os hw
  | scr128Err p r => exact performed_scr128Err hw
  | enc10D b => exact performed_enc10D b
  | enc10K b => exact performed_enc10K hw
  | enc10Kinv b => exact performed_enc10Kinv hw
  | enc130D d => exact encodes_block (SymRec.good false d)
  | enc130Os d => exact encodes_block (SymRec.good true d)
  | paRxmap v r => exact performed_paRxmap v r
  | paTxmap d k e => exact performed_paTxmap d k e
  | paCmdmap pins => exact performed_paCmdmap hp

theorem withFetchWord_some {s : State} {nbits w : Nat} {i : Instr} (h : decodeTableWord nbits w = some i) :
    s.withFetchWord nbits w = arrange i s := by
  rw [State.withFetchWord, fetchWord, h]

theorem withFetchWord_none {s : State} {nbits w : Nat} (h : decodeTableWord nbits w = none) :
    s.withFetchWord nbits w = s := by
  rw [State.withFetchWord, fetchWord, h]

/-- Settles O2: a decoded word places its operation, and `arrange_performs` says that the next edge performs it. -/
theorem fetchedOperationIsPerformed : Obligations.FetchedOperationIsPerformed := by
  refine ⟨fun nbits w i hi hw hp => ?_, fun s nbits w h => withFetchWord_none h⟩
  rw [withFetchWord_some hi]
  exact arrange_performs hw hp

end Sys2Proof.Machine
end

section
/-! PROOF. The aligner's operations, and LOCKED over an RX edge (R134 to R143). -/

namespace Sys2Proof.Machine

-- one theorem at a time: elaborated side by side they outgrow the checker's memory
set_option Elab.async false

-- LOCKED (R141)

theorem lockedNext_eq (c : Params) (conf : Nat) (l : Bool) :
    lockedNext c conf l = if c.lockThreshold ≤ conf then true else if conf = 0 then false else l := rfl

/-- Without a hypothesis LOCKED is clear. -/
theorem lockedNext_zero {c : Params} (hc : 1 ≤ c.lockThreshold) (l : Bool) : lockedNext c 0 l = false := by
  rw [lockedNext_eq, if_neg (by omega), if_pos rfl]

theorem threshold_le_of_lockedNext_rises {c : Params} {conf : Nat} (h : lockedNext c conf false = true) :
    c.lockThreshold ≤ conf := by
  rcases lockedNext_cases c conf false with ⟨hle, -⟩ | ⟨-, -, hl⟩ | ⟨-, -, hl⟩
  · exact hle
  · rw [hl] at h; cases h
  · rw [hl] at h; cases h

theorem conf_eq_zero_of_lockedNext_falls {c : Params} {conf : Nat} (h : lockedNext c conf true = false) :
    conf = 0 := by
  rcases lockedNext_cases c conf true with ⟨-, hl⟩ | ⟨-, hzero, -⟩ | ⟨-, -, hl⟩
  · rw [hl] at h; cases h
  · exact hzero
  · rw [hl] at h; cases h

-- One operation (R135 to R140)

/-- `AL.STEP.TIMEOUT` where the time has reached the limit. -/
theorem exec_alStepTimeout_due {s : State} (hc : 1 ≤ s.cfg.lockThreshold) (h : s.cfg.alignTimeout ≤ s.al.since) :
    exec .alStepTimeout s = .next
      (s.setAl { s.al with conf := 0, since := 0, locked := false, outValid := false }) := by
  simp only [exec, execAlStepTimeout, if_pos h, lockedNext_zero hc]

/-- `AL.STEP.TIMEOUT` before that. -/
theorem exec_alStepTimeout_early {s : State} (h : s.al.since < s.cfg.alignTimeout) :
    exec .alStepTimeout s = .next s := by
  simp only [exec, execAlStepTimeout, if_neg (Nat.not_le.2 h)]

/-- `AL.STEP.ACQUIRE` takes the lowest offset at which a marker starts. -/
theorem exec_alStepAcquire {s : State} {raw : Block} {o : Nat} {rest : List Nat} (h : s.hits raw = o :: rest) :
    exec (.alStepAcquire raw) s = .next (s.alignTo raw o 1 0) := by
  simp only [exec, execAlStepAcquire, h, List.headD_cons]

/-- Settles O26: the time since the last marker against the limit. -/
theorem alignerTimeoutResult : Obligations.AlignerTimeoutResult := fun _ hc =>
  ⟨exec_alStepTimeout_due hc, exec_alStepTimeout_early⟩

/-- Settles O25: `AL.RESET` is `State.realign`; every case of `AL.STEP` is `State.alignTo`, whose LOCKED, symbol and
raw word the statement writes out. -/
theorem alignerResults : Obligations.AlignerResults := fun _ _ =>
  ⟨rfl, fun _ _ h => exec_alStepAcquire h, rfl, rfl, rfl⟩

-- The aligner over an RX edge (R134)

/-- What an RX edge makes of the aligner: its reset, a case of `AL.STEP` that keeps a hypothesis's offset and takes at
most one from its confidence, or the loss of the hypothesis at the time limit. -/
inductive AlignResult (s : State) : Aligner → Prop
  | reset (hcmd : s.commanded 0 = true) : AlignResult s { Aligner.init with prev := s.raw }
  | stepped {offset conf since : Nat}
      (hkeeps : s.al.conf ≠ 0 → offset = s.al.offset ∧ s.al.conf ≤ conf + 1) :
      AlignResult s (s.alignTo s.raw offset conf since).al
  | dropped {v : Aligner} (hdue : s.cfg.alignTimeout ≤ s.al.since + 1) :
      AlignResult s { v with conf := 0, since := 0, locked := false, outValid := false }

/-- A case of `AL.STEP` that finds no marker at the hypothesis, with the modifier `AL.STEP.TIMEOUT` behind it. -/
theorem alignTo_timeout_result {s : State} (hc : 1 ≤ s.cfg.lockThreshold) {conf : Nat}
    (hkeeps : s.al.conf ≤ conf + 1) :
    AlignResult s (afterAll (selectTimeout s) (s.alignTo s.raw s.al.offset conf (s.al.since + 1))).al := by
  unfold selectTimeout
  split
  next hdue =>
    have hdrop := exec_alStepTimeout_due (s := s.alignTo s.raw s.al.offset conf (s.al.since + 1)) hc hdue
    rw [afterAll_cons, afterAll_nil, after_of_exec hdrop]
    exact .dropped hdue
  next => exact .stepped fun _ => ⟨rfl, hkeeps⟩

/-- The cases of the aligner's dispatch. -/
theorem selectAlign_result {s : State} (hc : 1 ≤ s.cfg.lockThreshold) (hmax : s.al.conf ≤ s.cfg.confMax) :
    AlignResult s (afterAll (selectAlign s) s).al := by
  unfold selectAlign
  split
  next hcmd => exact .reset hcmd
  next =>
    split
    next hconf =>
      split
      · exact .stepped fun h => absurd hconf h
      · exact .stepped fun h => absurd hconf h
    next hconf =>
      split
      · exact .stepped fun _ => ⟨rfl, by omega⟩
      · split
        · have hnone : after (.alStepNone s.raw) s = s.alignTo s.raw s.al.offset s.al.conf (s.al.since + 1) :=
            after_of_exec (by simp only [exec, execAlStepNone, if_pos (Nat.pos_of_ne_zero hconf)])
          rw [afterAll_cons, hnone]
          exact alignTo_timeout_result hc (Nat.le_succ _)
        · exact alignTo_timeout_result hc (conf := s.al.conf - 1) (by omega)

/-- LOCKED rises only at the threshold. -/
theorem AlignResult.rises {s : State} {v : Aligner} (h : AlignResult s v) (hl : s.al.locked = false)
    (hv : v.locked = true) : s.cfg.lockThreshold ≤ v.conf := by
  cases h with
  | reset | dropped => cases hv
  | stepped => rw [alignTo_eq, setAl_al, hl] at hv; exact threshold_le_of_lockedNext_rises hv

/-- LOCKED falls only at confidence zero. -/
theorem AlignResult.falls {s : State} {v : Aligner} (h : AlignResult s v) (hl : s.al.locked = true)
    (hv : v.locked = false) : v.conf = 0 := by
  cases h with
  | reset | dropped => rfl
  | stepped => rw [alignTo_eq, setAl_al, hl] at hv; exact conf_eq_zero_of_lockedNext_falls hv

/-- One raw word costs a hypothesis at most one of its confidence, so with two of it LOCKED stays (R143). -/
theorem AlignResult.survives {s : State} {v : Aligner} (h : AlignResult s v) (hcmd : s.commanded 0 = false)
    (hl : s.al.locked = true) (hconf : 2 ≤ s.al.conf) (hsince : s.al.since + 1 < s.cfg.alignTimeout) :
    v.locked = true ∧ v.offset = s.al.offset ∧ s.al.conf ≤ v.conf + 1 := by
  have hkept : v.offset = s.al.offset ∧ s.al.conf ≤ v.conf + 1 := by
    cases h with
    | reset hreset => rw [hcmd] at hreset; cases hreset
    | stepped hkeeps => exact hkeeps (by omega)
    | dropped hdue => omega
  refine ⟨?_, hkept⟩
  by_contra hv
  have := h.falls hl (Bool.eq_false_of_not_eq_true hv)
  omega

/-- Settles O27: the aligner's dispatch, and the invariant after the edge for the valid bit. -/
theorem lockHysteresis : Obligations.LockHysteresis := by
  intro s t hinv hedge
  obtain rfl : s.afterRx = t := by rw [rxEdge_eq] at hedge; cases hedge; rfl
  have hc : 1 ≤ s.cfg.lockThreshold := le_of_lt (configBounds_of_legal hinv.config).threshold
  have hal : AlignResult s s.afterRx.al := selectAlign_result hc hinv.aligner.conf
  exact ⟨hal.rises, hal.falls, (afterRx_inv hinv).aligner.valid, hal.survives⟩

end Sys2Proof.Machine
end

section
/-! PROOF. The 8b/10b code as a code (R150 to R157, R163, R164): a code word is taken apart into its two sub-blocks,
each moves the running disparity by its own bits alone, and no table has a string twice in one column. -/

namespace Sys2Proof.Code10

-- The legal pairs (R163)

theorem mem_symbols {kb : Bool × Byte} : kb ∈ symbols ↔ kb.1 = false ∨ isK kb.2 = true := by
  obtain ⟨k, b⟩ := kb
  have hdata : ∃ n < 256, BitVec.ofNat 8 n = b := ⟨b.toNat, b.isLt, by simp⟩
  cases k <;> simp [symbols, isK, hdata]

-- The two sub-blocks of a code word (R91, R157)

theorem wire_lt : ∀ n s : Nat, wire n s < 2 ^ n
  | 0, _ => Nat.one_pos
  | n + 1, s => by
    have ih := wire_lt n (s / 2)
    have hbit : s % 2 * 2 ^ n ≤ 1 * 2 ^ n := Nat.mul_le_mul_right _ (by omega)
    rw [wire, pow_succ]
    omega

theorem sub6_lt (k : Bool) (b : Byte) (rd : Rd) : sub6 k b rd < 64 := by
  unfold sub6
  split <;> exact wire_lt 6 _

theorem sub4_lt (k : Bool) (b : Byte) (rd : Rd) : sub4 k b rd < 16 := by
  unfold sub4
  split
  · exact wire_lt 4 _
  · split <;> exact wire_lt 4 _

/-- The disparity after the six-bit sub-block (R153). -/
def midRd (k : Bool) (b : Byte) (rd : Rd) : Rd := subRd 6 rd (sub6 k b rd)

theorem enc10_word (k : Bool) (b : Byte) (rd : Rd) :
    (enc10 k b rd).1.toNat = sub6 k b rd + 64 * sub4 k b (midRd k b rd) := by
  have h6 := sub6_lt k b rd
  have h4 := sub4_lt k b (midRd k b rd)
  have hword : (enc10 k b rd).1 = BitVec.ofNat 10 (sub6 k b rd + 64 * sub4 k b (midRd k b rd)) := rfl
  rw [hword, BitVec.toNat_ofNat]
  omega

theorem enc10_rd (k : Bool) (b : Byte) (rd : Rd) :
    (enc10 k b rd).2 = subRd 4 (midRd k b rd) (sub4 k b (midRd k b rd)) := rfl

theorem enc10_word_six (k : Bool) (b : Byte) (rd : Rd) : (enc10 k b rd).1.toNat % 64 = sub6 k b rd := by
  have h6 := sub6_lt k b rd
  rw [enc10_word]
  omega

theorem enc10_word_four (k : Bool) (b : Byte) (rd : Rd) :
    (enc10 k b rd).1.toNat / 64 = sub4 k b (midRd k b rd) := by
  have h6 := sub6_lt k b rd
  rw [enc10_word]
  omega

/-- The disparity computed from the received bits is the one the encoder leaves (R153, R168). -/
theorem lineRd_enc10 (k : Bool) (b : Byte) (rd : Rd) : lineRd rd (enc10 k b rd).1 = (enc10 k b rd).2 := by
  rw [lineRd, enc10_word_six, enc10_word_four, enc10_rd, midRd]

-- The disparity of a sub-block and of a code word (R153, R163)

/-- How `ones` one bits among `n` sent bits move the disparity from `rd` to `rd'`: balanced, they keep it; with one too
many or one too few they are sent only from the disparity of the other sign, and flip it (R153). -/
abbrev MovesRd (n ones : Nat) (rd rd' : Rd) : Prop :=
  (2 * ones = n ∧ rd' = rd) ∨ (2 * ones = n + 2 ∧ rd = .minus ∧ rd' = .plus) ∨
  (2 * ones + 2 = n ∧ rd = .plus ∧ rd' = .minus)

/-- Two strings in a row cannot both lean one way: the first flips the disparity that the second is sent from. -/
theorem MovesRd.append {m n a b : Nat} {rd r1 r2 : Rd} (h : MovesRd m a rd r1) (h' : MovesRd n b r1 r2) :
    MovesRd (m + n) (a + b) rd r2 := by
  rcases h with ⟨ha, rfl⟩ | ⟨ha, rfl, rfl⟩ | ⟨ha, rfl, rfl⟩
  · rcases h' with ⟨hb, rfl⟩ | ⟨hb, rfl, rfl⟩ | ⟨hb, rfl, rfl⟩
    · exact .inl ⟨by omega, rfl⟩
    · exact .inr (.inl ⟨by omega, rfl, rfl⟩)
    · exact .inr (.inr ⟨by omega, rfl, rfl⟩)
  · rcases h' with ⟨hb, rfl⟩ | ⟨-, hrd, -⟩ | ⟨hb, -, rfl⟩
    · exact .inr (.inl ⟨by omega, rfl, rfl⟩)
    · cases hrd
    · exact .inl ⟨by omega, rfl⟩
  · rcases h' with ⟨hb, rfl⟩ | ⟨hb, -, rfl⟩ | ⟨-, hrd, -⟩
    · exact .inr (.inr ⟨by omega, rfl, rfl⟩)
    · exact .inl ⟨by omega, rfl⟩
    · cases hrd

theorem t6_moves (rd : Rd) : ∀ x < 32, MovesRd 6 (popcount 6 (t6 x rd)) rd (subRd 6 rd (t6 x rd)) := by
  cases rd <;> decide

theorem t6K28_moves (rd : Rd) : MovesRd 6 (popcount 6 (t6K28 rd)) rd (subRd 6 rd (t6K28 rd)) := by
  cases rd <;> decide

theorem t4d_moves (rd : Rd) : ∀ y < 8, MovesRd 4 (popcount 4 (t4d y rd)) rd (subRd 4 rd (t4d y rd)) := by
  cases rd <;> decide

theorem t4k_moves (rd : Rd) : ∀ y < 8, MovesRd 4 (popcount 4 (t4k y rd)) rd (subRd 4 rd (t4k y rd)) := by
  cases rd <;> decide

theorem t4a7_moves (rd : Rd) : MovesRd 4 (popcount 4 (t4a7 rd)) rd (subRd 4 rd (t4a7 rd)) := by
  cases rd <;> decide

theorem byte_column (b : Byte) : b.toNat % 32 < 32 := Nat.mod_lt _ (by decide)

theorem byte_row (b : Byte) : b.toNat / 32 < 8 := by have := b.isLt; omega

theorem sub6_moves (k : Bool) (b : Byte) (rd : Rd) : MovesRd 6 (popcount 6 (sub6 k b rd)) rd (midRd k b rd) := by
  unfold midRd sub6
  split
  · exact t6K28_moves rd
  · exact t6_moves rd _ (byte_column b)

theorem sub4_moves (k : Bool) (b : Byte) (rd : Rd) :
    MovesRd 4 (popcount 4 (sub4 k b rd)) rd (subRd 4 rd (sub4 k b rd)) := by
  unfold sub4
  split
  · exact t4k_moves rd _ (byte_row b)
  · split
    · exact t4a7_moves rd
    · exact t4d_moves rd _ (byte_row b)

theorem popcount_append : ∀ (m n : Nat) {a : Nat} (b : Nat), a < 2 ^ m →
    popcount (m + n) (a + 2 ^ m * b) = popcount m a + popcount n b
  | 0, n, a, b, h => by
    obtain rfl : a = 0 := by omega
    simp [popcount]
  | m + 1, n, a, b, h => by
    have hpow : 2 ^ (m + 1) * b = 2 * (2 ^ m * b) := by ring
    have hhalf : (a + 2 ^ (m + 1) * b) / 2 = a / 2 + 2 ^ m * b := by omega
    have hbit : (a + 2 ^ (m + 1) * b) % 2 = a % 2 := by omega
    have ih := popcount_append m n b (a := a / 2) (by omega)
    rw [Nat.add_right_comm, popcount, popcount, hhalf, hbit, ih, Nat.add_assoc]

theorem popcount_enc10 (k : Bool) (b : Byte) (rd : Rd) :
    popcount 10 (enc10 k b rd).1.toNat =
      popcount 6 (sub6 k b rd) + popcount 4 (sub4 k b (midRd k b rd)) := by
  rw [enc10_word]
  exact popcount_append 6 4 _ (sub6_lt k b rd)

/-- A whole code word moves the disparity as a sub-block does (R163). -/
theorem enc10_moves (k : Bool) (b : Byte) (rd : Rd) :
    MovesRd 10 (popcount 10 (enc10 k b rd).1.toNat) rd (enc10 k b rd).2 := by
  rw [popcount_enc10, enc10_rd]
  exact (sub6_moves k b rd).append (sub4_moves k b (midRd k b rd))

/-- A word of ten bits has four, five or six ones, each number with its turn of the disparity. -/
theorem MovesRd.ten {ones : Nat} {rd rd' : Rd} (h : MovesRd 10 ones rd rd') :
    ones ∈ [4, 5, 6] ∧ (ones = 6 → rd = .minus ∧ rd' = .plus) ∧ (ones = 4 → rd = .plus ∧ rd' = .minus) := by
  rcases h with ⟨hones, -⟩ | ⟨hones, hturn⟩ | ⟨hones, hturn⟩
  · obtain rfl : ones = 5 := by omega
    exact ⟨by decide, fun h6 => by omega, fun h4 => by omega⟩
  · obtain rfl : ones = 6 := by omega
    exact ⟨by decide, fun _ => hturn, fun h4 => by omega⟩
  · obtain rfl : ones = 4 := by omega
    exact ⟨by decide, fun h6 => by omega, fun _ => hturn⟩

/-- Settles O17: the turn of the disparity and the one the decoder computes. -/
theorem codeWordDisparityBalanced : Obligations.CodeWordDisparityBalanced := by
  intro rd _ kb _ w
  obtain ⟨hones, hsix, hfour⟩ := (enc10_moves kb.1 kb.2 rd).ten
  exact ⟨hones, hsix, hfour, lineRd_enc10 kb.1 kb.2 rd⟩

-- No string twice in a column (R151, R152)

theorem t6_inj (rd : Rd) : ∀ x < 32, ∀ y < 32, t6 x rd = t6 y rd → x = y := by cases rd <;> decide
theorem t6K28_ne_t6 (rd : Rd) : ∀ x < 32, t6K28 rd ≠ t6 x rd := by cases rd <;> decide
theorem t4d_inj (rd : Rd) : ∀ x < 8, ∀ y < 8, t4d x rd = t4d y rd → x = y := by cases rd <;> decide
theorem t4a7_ne_t4d (rd : Rd) : ∀ y < 8, t4a7 rd ≠ t4d y rd := by cases rd <;> decide
theorem t4k_inj (rd : Rd) : ∀ x < 8, ∀ y < 8, t4k x rd = t4k y rd → x = y := by cases rd <;> decide

/-- The twelve control bytes: the row of K28.y, or row 7 of four columns that never take the alternate row as data
(R154, R155). -/
theorem isK_rows {b : Byte} (h : isK b = true) : b.toNat % 32 = 28 ∨
    b.toNat / 32 = 7 ∧ ∀ rd, altA7 (b.toNat % 32) rd = false := by
  have hall : ∀ b ∈ kBytes, b.toNat % 32 = 28 ∨
      b.toNat / 32 = 7 ∧ altA7 (b.toNat % 32) .minus = false ∧ altA7 (b.toNat % 32) .plus = false := by decide
  rcases hall b (List.contains_iff_mem.1 h) with h28 | ⟨h7, hm, hp⟩
  · exact .inl h28
  · exact .inr ⟨h7, fun rd => by cases rd <;> assumption⟩

/-- The six-bit sub-block names its column of the code, and tells K28.y from D28.y. -/
theorem sub6_inj {k k' : Bool} {b b' : Byte} {rd : Rd} (h : sub6 k b rd = sub6 k' b' rd) :
    b.toNat % 32 = b'.toNat % 32 ∧ (b.toNat % 32 = 28 → k = k') := by
  unfold sub6 at h
  split at h <;> split at h
  next hk hk' => simp_all
  next hk hk' => exact absurd h (t6K28_ne_t6 rd _ (byte_column b'))
  next hk hk' => exact absurd h.symm (t6K28_ne_t6 rd _ (byte_column b))
  next hk hk' =>
    have hx := t6_inj rd _ (byte_column b) _ (byte_column b') h
    rw [← hx] at hk'
    exact ⟨hx, fun h28 => by simp_all⟩

/-- The four-bit sub-block tells the data symbols of one column apart. -/
theorem sub4_data_inj {b b' : Byte} {rd : Rd} (hx : b.toNat % 32 = b'.toNat % 32)
    (h : sub4 false b rd = sub4 false b' rd) : b.toNat / 32 = b'.toNat / 32 := by
  simp only [sub4, Bool.false_eq_true, if_false] at h
  split at h <;> split at h
  next hk hk' => simp_all
  next hk hk' => exact absurd h (t4a7_ne_t4d rd _ (byte_row b'))
  next hk hk' => exact absurd h.symm (t4a7_ne_t4d rd _ (byte_row b))
  next hk hk' => exact t4d_inj rd _ (byte_row b) _ (byte_row b') h

theorem sub4_control_inj {b b' : Byte} {rd : Rd} (h : sub4 true b rd = sub4 true b' rd) :
    b.toNat / 32 = b'.toNat / 32 := t4k_inj rd _ (byte_row b) _ (byte_row b') h

/-- Outside column 28 a control symbol takes the alternate row, which no data symbol of its column takes (R154). -/
theorem sub4_control_ne_data {b b' : Byte} {rd : Rd} (hk : isK b = true) (h28 : b.toNat % 32 ≠ 28)
    (hx : b.toNat % 32 = b'.toNat % 32) : sub4 true b rd ≠ sub4 false b' rd := by
  obtain ⟨h7, halt⟩ := (isK_rows hk).resolve_left h28
  have hcontrol : sub4 true b rd = t4a7 rd := by simp only [sub4, if_true, h7]; rfl
  have hdata : sub4 false b' rd = t4d (b'.toNat / 32) rd := by simp [sub4, ← hx, halt rd]
  rw [hcontrol, hdata]
  exact t4a7_ne_t4d rd _ (byte_row b')

theorem byte_ext {b b' : Byte} (hx : b.toNat % 32 = b'.toNat % 32) (hy : b.toNat / 32 = b'.toNat / 32) : b = b' :=
  BitVec.eq_of_toNat_eq (by omega)

/-- No two legal pairs share a word in one column (R164). -/
theorem enc10_word_inj {a c : Bool × Byte} {rd : Rd} (ha : a ∈ symbols) (hc : c ∈ symbols)
    (h : (enc10 a.1 a.2 rd).1 = (enc10 c.1 c.2 rd).1) : a = c := by
  obtain ⟨k, b⟩ := a
  obtain ⟨k', b'⟩ := c
  have h6 : sub6 k b rd = sub6 k' b' rd := by rw [← enc10_word_six, ← enc10_word_six, h]
  have hmid : midRd k b rd = midRd k' b' rd := congrArg (subRd 6 rd) h6
  have h4 : sub4 k b (midRd k b rd) = sub4 k' b' (midRd k b rd) := by
    rw [← enc10_word_four, h, enc10_word_four, hmid]
  obtain ⟨hx, h28⟩ := sub6_inj h6
  have hcontrol : k = true → isK b = true := (mem_symbols.1 ha).resolve_left ∘ ne_false_of_eq_true
  have hcontrol' : k' = true → isK b' = true := (mem_symbols.1 hc).resolve_left ∘ ne_false_of_eq_true
  match k, k' with
  | false, false => rw [byte_ext hx (sub4_data_inj hx h4)]
  | true, true => rw [byte_ext hx (sub4_control_inj h4)]
  | true, false =>
    have hrow : b.toNat % 32 ≠ 28 := fun hcol => Bool.noConfusion (h28 hcol)
    exact absurd h4 (sub4_control_ne_data (hcontrol rfl) hrow hx)
  | false, true =>
    have hrow : b'.toNat % 32 ≠ 28 := fun hcol => Bool.noConfusion (h28 (hx.trans hcol))
    exact absurd h4.symm (sub4_control_ne_data (hcontrol' rfl) hrow hx.symm)

theorem encodes_of_decCol {rd : Rd} {v : Line10} {kb : Bool × Byte} (h : decCol rd v = some kb) :
    kb ∈ symbols ∧ (enc10 kb.1 kb.2 rd).1 = v := by
  have hword := List.find?_some h
  exact ⟨List.mem_of_find?_eq_some h, eq_of_beq hword⟩

/-- A search that finds a pair for the word finds the one it was encoded from, for there is no other. -/
theorem decCol_enc10 {rd : Rd} {kb : Bool × Byte} (hmem : kb ∈ symbols) :
    decCol rd (enc10 kb.1 kb.2 rd).1 = some kb := by
  have hfound : (decCol rd (enc10 kb.1 kb.2 rd).1).isSome = true :=
    List.find?_isSome.2 ⟨kb, hmem, beq_self_eq_true _⟩
  obtain ⟨c, hc⟩ := Option.isSome_iff_exists.1 hfound
  obtain ⟨hmem', hword⟩ := encodes_of_decCol hc
  rw [hc, enc10_word_inj hmem' hmem hword]

/-- Settles O16: what the column finds encodes to the word, and an encoded pair is found again. -/
theorem decodeColumnIsExactInverse : Obligations.DecodeColumnIsExactInverse := by
  intro rd v kb
  rw [← mem_symbols]
  constructor
  · exact encodes_of_decCol
  · rintro ⟨hmem, rfl⟩
    exact decCol_enc10 hmem

end Sys2Proof.Code10
end

section
/-! PROOF. The whole effect of the decoder's and the encoder's operations (R158 to R170, R181 to R187). -/

namespace Sys2Proof.Machine

-- `DEC10` (R166, R167)

theorem decodeKnown_own {rd : Rd} {v : Line10} {kb : Bool × Byte} (h : Code10.decCol rd v = some kb) :
    decodeKnown rd v = pairRecord kb := by simp only [decodeKnown, h]

theorem decodeKnown_other {rd : Rd} {v : Line10} {kb : Bool × Byte} (hown : Code10.decCol rd v = none)
    (hother : Code10.decCol (Code10.flip rd) v = some kb) :
    decodeKnown rd v = SymRec.bad .disp (kb.2.setWidth 128) := by simp only [decodeKnown, hown, hother]

theorem decodeKnown_neither {rd : Rd} {v : Line10} (hown : Code10.decCol rd v = none)
    (hother : Code10.decCol (Code10.flip rd) v = none) : decodeKnown rd v = SymRec.bad .code 0 := by
  simp only [decodeKnown, hown, hother]

theorem exec_dec10Ok (v : Line10) (s : State) : exec (.dec10Ok v) s = .next (s.decodeStep v) := rfl
theorem exec_dec10Disp (v : Line10) (s : State) : exec (.dec10Disp v) s = .next (s.decodeStep v) := rfl
theorem exec_dec10Code (v : Line10) (s : State) : exec (.dec10Code v) s = .next (s.decodeStep v) := rfl
theorem exec_dec10Acq (v : Line10) (s : State) : exec (.dec10Acq v) s = .next (s.acquireStep v) := rfl

/-- Settles O28: one step for all three operations, with the record of the column the word is found in. -/
theorem decodeKnownResults : Obligations.DecodeKnownResults := by
  intro s v d
  refine ⟨fun k b hown => ?_, fun k b hown hother => ?_, fun hown hother => ?_⟩
  · rw [exec_dec10Ok, decodeStep_eq, decodeKnown_own hown]; rfl
  · rw [exec_dec10Disp, decodeStep_eq, decodeKnown_other hown hother]; rfl
  · rw [exec_dec10Code, decodeStep_eq, decodeKnown_neither hown hother]; rfl

/-- Settles O29: the columns that hold the word choose among the four cases of the step. -/
theorem decodeAcquireResults : Obligations.DecodeAcquireResults := by
  intro s v good after
  refine ⟨fun a b hm hp => ?_, fun a hm hp => ?_, fun b hm hp => ?_, fun hm hp => ?_⟩ <;>
    (rw [exec_dec10Acq, State.acquireStep, hm, hp]; rfl)

/-- Settles O18: the word is in the column of its own disparity, for its own pair, and its bits give the encoder's
disparity. -/
theorem decoderFollowsEncoder : Obligations.DecoderFollowsEncoder := by
  intro s k b hlegal _
  have hown : Code10.decCol s.dec.rd (Code10.enc10 k b s.dec.rd).1 = some (k, b) :=
    Code10.decCol_enc10 (kb := (k, b)) (Code10.mem_symbols.2 hlegal)
  rw [exec_dec10Ok, decodeStep_eq, decodeKnown_own hown, Code10.lineRd_enc10]
  rfl

/-- Settles O30: each operation is one update of the decoder's registers, and `DEC.RESET` one of the codec bit too. -/
theorem decodeBlockResults : Obligations.DecodeBlockResults := fun _ _ => ⟨rfl, rfl, rfl, rfl, rfl, rfl⟩

-- The encoder (R158 to R162, R180)

theorem enc130_data (d : Payload) : enc130 false d = BitVec.ofNat 130 (d.toNat * 4 + 2) := by
  rw [Nat.mul_comm]; rfl

theorem enc130_control (d : Payload) : enc130 true d = BitVec.ofNat 130 (d.toNat * 4 + 1) := by
  rw [Nat.mul_comm]; rfl

/-- Settles O43: each operation is one update of the encoder's registers; the block's word is its payload above its
sync header. -/
theorem encoderResults : Obligations.EncoderResults := by
  intro s b d send
  refine ⟨rfl, rfl, rfl, rfl, rfl, ?_, ?_⟩
  · rw [← enc130_data]; rfl
  · rw [← enc130_control]; rfl

end Sys2Proof.Machine
end

section
/-! PROOF. The block code (R180 to R190): a block is its payload above its sync header, an error pattern acts on the
two apart, and the record delivered depends on the header that is left. -/

namespace Sys2Proof.Machine

-- An error on the line (R93)

theorem syncOf_lt (k : Bool) : syncOf k < 4 := by cases k <;> decide

/-- Exclusive or acts on the two low bits and on the rest apart. -/
theorem xor_above_two_bits (a b : Nat) {m n : Nat} (hm : m < 4) (hn : n < 4) :
    (4 * a + m) ^^^ (4 * b + n) = 4 * (a ^^^ b) + (m ^^^ n) := by
  have hlow : ((4 * a + m) ^^^ (4 * b + n)) % 4 = m ^^^ n := by
    rw [Nat.xor_mod_two_pow (n := 2), show (4 * a + m) % 2 ^ 2 = m by omega, show (4 * b + n) % 2 ^ 2 = n by omega]
  have hhigh : ((4 * a + m) ^^^ (4 * b + n)) / 4 = a ^^^ b := by
    rw [Nat.xor_div_two_pow (n := 2), show (4 * a + m) / 2 ^ 2 = a by omega, show (4 * b + n) / 2 ^ 2 = b by omega]
  rw [← hlow, ← hhigh, Nat.div_add_mod]

/-- A payload and a sync header side by side, as a number. -/
theorem toNat_errorPattern (e : Payload) (h : BitVec 2) :
    ((e.setWidth 130 <<< 2) ||| h.setWidth 130).toNat = 4 * e.toNat + h.toNat := by
  have he := e.isLt
  have hh := h.isLt
  have hshift : (e.setWidth 130 <<< 2).toNat = e.toNat <<< 2 := by
    rw [BitVec.toNat_shiftLeft, BitVec.toNat_setWidth_of_le (by decide), Nat.shiftLeft_eq, Nat.mod_eq_of_lt (by omega)]
  rw [BitVec.toNat_or, hshift, BitVec.toNat_setWidth_of_le (by decide), ← Nat.shiftLeft_add_eq_or_of_lt hh,
    Nat.shiftLeft_eq, Nat.mul_comm]

/-- The block that arrives: the errors on the payload and on the sync header do not mix. -/
theorem enc130_xor_errorPattern (k : Bool) (d e : Payload) (h : BitVec 2) :
    enc130 k d ^^^ ((e.setWidth 130 <<< 2) ||| h.setWidth 130) =
      BitVec.ofNat 130 (4 * (d ^^^ e).toNat + (syncOf k ^^^ h.toNat)) := by
  have hpattern : (e.setWidth 130 <<< 2) ||| h.setWidth 130 = BitVec.ofNat 130 (4 * e.toNat + h.toNat) := by
    rw [← toNat_errorPattern, BitVec.ofNat_toNat, BitVec.setWidth_eq]
  rw [hpattern, enc130, ← BitVec.ofNat_xor, xor_above_two_bits _ _ (syncOf_lt k) h.isLt, BitVec.toNat_xor]

-- The record of a block (R185 to R188)

/-- The record delivered for a block with this sync header and payload. -/
def blockRecord (sync : Nat) (p : Payload) : SymRec :=
  if sync = 2 then SymRec.good false p else if sync = 1 then SymRec.good true p else SymRec.bad .code 0

theorem exec_selectDec130 (b : Block) (s : State) :
    exec (selectDec130 b) s = .next (s.deliver (blockRecord b.sync b.payload)) := by
  unfold selectDec130 blockRecord
  split
  · rfl
  · split
    · rfl
    · split <;> rfl

/-- A header that the sender can have sent names its tag. -/
theorem blockRecord_syncOf (k : Bool) (p : Payload) : blockRecord (syncOf k) p = SymRec.good k p := by
  cases k <;> rfl

theorem blockRecord_badHeader {sync : Nat} (hdata : sync ≠ 2) (hcontrol : sync ≠ 1) (p : Payload) :
    blockRecord sync p = SymRec.bad .code 0 := by
  rw [blockRecord, if_neg hdata, if_neg hcontrol]

-- An error on the sync header (R190)

theorem syncOf_bothFlipped (k : Bool) : syncOf k ^^^ 3 = syncOf (!k) := by cases k <;> rfl

/-- One flipped bit leaves neither header of R94. -/
theorem syncOf_oneFlipped (k : Bool) {h : BitVec 2} (hsome : h ≠ 0) (hboth : h ≠ 3) :
    syncOf k ^^^ h.toNat ≠ 2 ∧ syncOf k ^^^ h.toNat ≠ 1 := by
  revert k h
  decide

/-- Settles O19: the payload and the sync header arrive with their own errors, and of the headers a sender can have
sent only a double error makes another. -/
theorem blockCodeRoundTrip : Obligations.BlockCodeRoundTrip := by
  intro s k d e h
  have hsync : syncOf k ^^^ h.toNat < 4 := Nat.xor_lt_two_pow (n := 2) (syncOf_lt k) h.isLt
  obtain ⟨hhead, hpay⟩ := block_parts (d ^^^ e) hsync
  rw [enc130_xor_errorPattern, exec_selectDec130, hhead, hpay]
  by_cases hnone : h = 0
  · subst hnone
    rw [show (0 : BitVec 2).toNat = 0 from rfl, Nat.xor_zero, blockRecord_syncOf, if_pos rfl]
    rfl
  by_cases hboth : h = 3
  · subst hboth
    rw [show (3 : BitVec 2).toNat = 3 from rfl, syncOf_bothFlipped, blockRecord_syncOf, if_neg hnone, if_pos rfl]
    cases k <;> rfl
  · obtain ⟨hdata, hcontrol⟩ := syncOf_oneFlipped k hnone hboth
    rw [blockRecord_badHeader hdata hcontrol, if_neg hnone, if_neg hboth]
    rfl

end Sys2Proof.Machine
end

section
/-! PROOF. The elastic buffer's operations (R199 to R211): the whole effect of each, and a write at the last free
slot (R212). -/

namespace Sys2Proof.Machine

-- EB.WRITE (R199)

/-- The state after `EB.WRITE` of a record: one slot, the pointer one further, the pending mark used up. -/
def State.written (s : State) (r : SymRec) : State :=
  (s.setMem (s.mem.write (s.ebw.wptr % s.cfg.bufferDepth) (Slot.ofRec r s.ebw.delPending))).setEbw
    { s.ebw with wptr := s.nextPtr s.ebw.wptr, delPending := false }

theorem exec_ebWrite {s : State} (h : 0 < s.cfg.bufferDepth) (r : SymRec) :
    exec (.ebWrite r) s = .next (s.written r) := execEbWrite_eq h

theorem written_mem_wf {s : State} (h : s.mem.wf = true) (r : SymRec) : (s.written r).mem.wf = true :=
  Memory.write_wf _ _ h

theorem written_readSlot {s : State} (h : s.mem.wf = true) (r : SymRec) (a : Nat) :
    (s.written r).readSlot a =
      if a = s.ebw.wptr % s.cfg.bufferDepth then Slot.ofRec r s.ebw.delPending else s.readSlot a :=
  Memory.read_write _ a _ (lo := none) h

theorem written_readSlot_same {s : State} (h : s.mem.wf = true) (r : SymRec) :
    (s.written r).readSlot (s.ebw.wptr % s.cfg.bufferDepth) = Slot.ofRec r s.ebw.delPending := by
  rw [written_readSlot h, if_pos rfl]

/-- Settles O33: the state after the write, and the array's own rule for what it reads back. -/
theorem slotWriteResult : Obligations.SlotWriteResult := fun s r hdepth hwf =>
  ⟨s.written r, exec_ebWrite hdepth r, rfl, written_mem_wf hwf r, written_readSlot hwf r⟩

-- The fill view over a write (R197)

/-- The depth of a legal configuration (R10). -/
theorem sixteen_le_bufferDepth {c : Params} (h : c.legal = true) : 16 ≤ c.bufferDepth := by
  simp only [Params.legal, Bool.and_eq_true, decide_eq_true_eq] at h
  obtain ⟨⟨⟨⟨⟨⟨⟨⟨hdepth, -⟩, -⟩, -⟩, -⟩, -⟩, -⟩, -⟩, -⟩ := h
  exact hdepth

/-- A difference modulo `2^n` rises with its first operand, short of the wrap. -/
theorem subMod_succ {n a b : Nat} (h : subMod n a b + 1 < 2 ^ n) :
    subMod n ((a + 1) % 2 ^ n) b = subMod n a b + 1 := by
  rw [← Nat.mod_eq_of_lt h, subMod, subMod, Nat.mod_add_mod, Nat.mod_add_mod, Nat.add_right_comm]

/-- The pointers count to twice the depth at least, so a full buffer is not mistaken for an empty one (R11). -/
theorem bufferDepth_lt_two_pow_pb (c : Params) : c.bufferDepth < 2 ^ c.pb := Nat.lt_log2_self

theorem written_fillW {s : State} (h : s.fillW + 1 < 2 ^ s.cfg.pb) (r : SymRec) :
    (s.written r).fillW = s.fillW + 1 := subMod_succ h

theorem written_occ {s : State} (h : s.occ + 1 < 2 ^ s.cfg.pb) (r : SymRec) :
    (s.written r).occ = s.occ + 1 := subMod_succ h

/-- Where the synchronised read pointer is settled, the write side's view is the occupancy (R197). -/
theorem fillW_eq_occ {s : State} (hr : s.ebr.rptr < 2 ^ s.cfg.pb) (hg : s.ebw.rgrayW2 = gray s.ebr.rptr) :
    s.fillW = s.occ := by
  rw [State.fillW, State.occ, hg, ungray_gray hr]

-- The dispatch at the ends of the range (R198)

/-- The last free slot takes any record: the fill view is past the band of `EB.DELETE`. -/
theorem selectWrite_lastSlot {s : State} (hf : s.commanded 1 = false) (hv : s.dec.outValid = true)
    (hdepth : 2 ≤ s.cfg.bufferDepth) (hfill : s.fillW = s.cfg.bufferDepth - 1) :
    selectWrite s = .ebWrite s.dec.out := by
  rw [selectWrite_of_record hf hv, if_neg (by omega), if_neg (by omega)]

/-- A full buffer drops any record. -/
theorem selectWrite_full {s : State} (hf : s.commanded 1 = false) (hv : s.dec.outValid = true)
    (hdepth : 0 < s.cfg.bufferDepth) (hfill : s.fillW = s.cfg.bufferDepth) :
    selectWrite s = .ebOverflow s.dec.out := by
  rw [selectWrite_of_record hf hv, if_neg (by omega), if_pos (by omega)]

/-- Settles O35: the write raises the fill view from one below the depth to the depth, which selects the overflow
for whatever record comes next. -/
theorem boundaryWriteThenOverflow : Obligations.BoundaryWriteThenOverflow := by
  intro s hinv hflush hvalid hfill
  have hmin : 16 ≤ s.cfg.bufferDepth := sixteen_le_bufferDepth hinv.config
  have hpow : s.cfg.bufferDepth < 2 ^ s.cfg.pb := bufferDepth_lt_two_pow_pb s.cfg
  have hfull : (s.written s.dec.out).fillW = s.cfg.bufferDepth := by
    rw [written_fillW (by omega)]; omega
  refine ⟨selectWrite_lastSlot hflush hvalid (by omega) hfill, s.written s.dec.out, exec_ebWrite (by omega) _,
    rfl, hfull, fun hsettled => ?_, written_readSlot_same hinv.memory.canonical _, fun r => ⟨?_, rfl⟩⟩
  · have hocc : s.occ = s.cfg.bufferDepth - 1 := by rw [← fillW_eq_occ hinv.pointers.rptr hsettled, hfill]
    exact ⟨hocc, by rw [written_occ (by omega)]; omega⟩
  · exact selectWrite_full (s := (s.written s.dec.out).setDec { s.dec with out := r, outValid := true })
      hflush rfl (by change 0 < s.cfg.bufferDepth; omega) hfull

-- The operations that store nothing

/-- Settles O32: each operation is one update of the write side's registers, or none. -/
theorem writeSideResults : Obligations.WriteSideResults := fun _ _ => ⟨rfl, rfl, rfl, rfl⟩

/-- Settles O34: each operation is one update of the read side's registers. -/
theorem readSideResults : Obligations.ReadSideResults := fun _ _ => ⟨rfl, rfl, rfl, rfl, rfl, rfl⟩

end Sys2Proof.Machine
end

section
/-! PROOF. The bridge's operations (R228, R230, R231): the whole effect of each. -/

namespace Sys2Proof.Machine

theorem exec_cdcSync_rx (s : State) : exec (.cdcSync .rx) s = .next s.syncRx := rfl

theorem exec_cdcSync_core (s : State) : exec (.cdcSync .core) s = .next s.syncCore := rfl

theorem exec_cdcReq (cmd : BitVec 4) (s : State) : exec (.cdcReq cmd) s = .next (s.raiseRequest cmd) := rfl

theorem exec_cdcAck (s : State) :
    exec .cdcAck s = .next (s.setCdcRx { s.cdcRx with ack := s.cdcRx.reqR2 }) := rfl

/-- Settles O23: each domain's synchroniser half, the request and the acknowledge are one update of the registers
they own, as the laws of `syncRx`, `syncCore` and `raiseRequest` write them out. -/
theorem bridgeResults : Obligations.BridgeResults := by
  intro s
  refine ⟨?syncRx, ?syncCore, fun cmd => ?request, ?acknowledge⟩
  case syncRx => rw [exec_cdcSync_rx, syncRx_eq]; rfl
  case syncCore => rw [exec_cdcSync_core, syncCore_eq]; rfl
  case request => rw [exec_cdcReq, raiseRequest_eq]; rfl
  case acknowledge => rw [exec_cdcAck]; rfl

end Sys2Proof.Machine
end

section
/-! PROOF. The scrambler's and the descrambler's operations (R252 to R265): the whole effect of each, and what
none of them changes in a record (R269). -/

namespace Sys2Proof.Machine

-- The operations that deliver no record

theorem exec_scrStop (p : ScrInst) (s : State) :
    exec (.scrStop p) s = .next (s.setInst p
      { s.inst p with run := false, lfsr := s.cfg.seed s.lc.codec, aft := false, cnt := 0,
                      outValid := false }) := rfl

theorem exec_scrStart (p : ScrInst) (s : State) :
    exec (.scrStart p) s = .next (s.setInst p { s.inst p with run := true }) := rfl

theorem exec_scrBubble (p : ScrInst) (s : State) :
    exec (.scrBubble p) s = .next (s.setInst p { s.inst p with outValid := false }) := rfl

theorem exec_ostStep (p : ScrInst) (r : SymRec) (s : State) :
    exec (.ostStep p r) s = .next (s.setInst p
      { s.inst p with aft := (track (s.inst p).aft (s.inst p).cnt r).2.1,
                      cnt := (track (s.inst p).aft (s.inst p).cnt r).2.2 }) := rfl

-- The operations on a record: what each delivers, and the LFSR it leaves

theorem exec_scr8Com (p : ScrInst) (r : SymRec) (s : State) :
    exec (.scr8Com p r) s = .next (s.scrambled p r (s.cfg.seed .c8b10b)) := rfl

theorem exec_scr8Skp (p : ScrInst) (r : SymRec) (s : State) :
    exec (.scr8Skp p r) s = .next (s.scrambled p r (s.inst p).lfsr) := rfl

theorem exec_scr8Ctl (p : ScrInst) (r : SymRec) (s : State) :
    exec (.scr8Ctl p r) s = .next (s.scrambled p r (s.key p .c8b10b).1) := rfl

theorem exec_scr8Bypass (p : ScrInst) (r : SymRec) (s : State) :
    exec (.scr8Bypass p r) s = .next (s.scrambled p r (s.key p .c8b10b).1) := rfl

theorem exec_scr8Err (p : ScrInst) (r : SymRec) (s : State) :
    exec (.scr8Err p r) s = .next (s.scrambled p r (s.key p .c8b10b).1) := rfl

theorem exec_scr8Data (p : ScrInst) (r : SymRec) (s : State) :
    exec (.scr8Data p r) s =
      .next (s.scrambled p (SymRec.whiten r (s.key p .c8b10b).2) (s.key p .c8b10b).1) := rfl

theorem exec_scr128Eieos (p : ScrInst) (r : SymRec) (s : State) :
    exec (.scr128Eieos p r) s = .next (s.scrambled p r (s.cfg.seed .c128b130b)) := rfl

theorem exec_scr128Skp (p : ScrInst) (r : SymRec) (s : State) :
    exec (.scr128Skp p r) s = .next (s.scrambled p r (s.inst p).lfsr) := rfl

theorem exec_scr128Os (p : ScrInst) (r : SymRec) (s : State) :
    exec (.scr128Os p r) s = .next (s.scrambled p r (s.key p .c128b130b).1) := rfl

theorem exec_scr128Err (p : ScrInst) (r : SymRec) (s : State) :
    exec (.scr128Err p r) s = .next (s.scrambled p r (s.key p .c128b130b).1) := rfl

theorem exec_scr128Data (p : ScrInst) (r : SymRec) (s : State) :
    exec (.scr128Data p r) s =
      .next (s.scrambled p (SymRec.whiten r (s.key p .c128b130b).2) (s.key p .c128b130b).1) := rfl

-- The tracker, in the order of R254

theorem track_com (aft : Bool) (cnt : Nat) {r : SymRec} (h : r.tag = .control ∧ r.byte = 0xBC) :
    track aft cnt r = (false, true, 0) := if_pos h

/-- The first symbol after a COM opens a long set unless it is a control symbol other than PAD and EIE. -/
theorem track_afterCom (cnt : Nat) {r : SymRec} (h : ¬(r.tag = .control ∧ r.byte = 0xBC)) :
    track true cnt r =
      if r.tag = .control ∧ r.byte ≠ 0xF7 ∧ r.byte ≠ 0xFC then (false, false, 0) else (true, false, 14) := by
  rw [track, if_neg h, if_pos rfl]
  cases r.tag <;> simp [← not_or, ite_not]

theorem track_within (cnt : Nat) {r : SymRec} (h : ¬(r.tag = .control ∧ r.byte = 0xBC)) :
    track false cnt r = (decide (0 < cnt), false, cnt - 1) := by
  rw [track, if_neg h, if_neg Bool.false_ne_true]
  by_cases hc : 0 < cnt
  · rw [if_pos hc, decide_eq_true hc]
  · rw [if_neg hc, decide_eq_false hc, Nat.eq_zero_of_not_pos hc]

/-- Settles O38: the three control operations are one update each; the tracker's is read in the order of R254. -/
theorem scramblerControlResults : Obligations.ScramblerControlResults := by
  intro p s r
  refine ⟨exec_scrStop p s, exec_scrStart p s, exec_scrBubble p s, ?_⟩
  rw [exec_ostStep]
  by_cases hcom : r.tag = .control ∧ r.byte = 0xBC
  · rw [track_com _ _ hcom, if_pos hcom]
  · rw [if_neg hcom]
    cases (s.inst p).aft with
    | true =>
      rw [track_afterCom _ hcom, if_pos rfl]
      split <;> rfl
    | false => rw [track_within _ hcom, if_neg Bool.false_ne_true]

/-- Settles O39: the seed and the keystream of codec `C8B10B` are the parameters' own. -/
theorem scramblerByteResults : Obligations.ScramblerByteResults := fun p s r =>
  ⟨exec_scr8Com p r s, exec_scr8Skp p r s, exec_scr8Ctl p r s, exec_scr8Bypass p r s, exec_scr8Err p r s,
    exec_scr8Data p r s⟩

/-- Settles O40: the seed and the keystream of codec `C128B130B` are the parameters' own. -/
theorem scramblerBlockResults : Obligations.ScramblerBlockResults := fun p s r =>
  ⟨exec_scr128Eieos p r s, exec_scr128Skp p r s, exec_scr128Os p r s, exec_scr128Err p r s,
    exec_scr128Data p r s⟩

-- What a record keeps on its way through (R269)

/-- A record `o` is `r` but for the data of a DATA record. -/
def KeepsRecord (r o : SymRec) : Prop :=
  o.tag = r.tag ∧ o.ek = r.ek ∧ o.dl = r.dl ∧ o.ins = r.ins ∧ (r.tag ≠ .data → o.data = r.data)

theorem keepsRecord_refl (r : SymRec) : KeepsRecord r r := ⟨rfl, rfl, rfl, rfl, fun _ => rfl⟩

theorem keepsRecord_whiten {r : SymRec} (h : r.tag = .data) (key : Payload) :
    KeepsRecord r (SymRec.whiten r key) := ⟨rfl, rfl, rfl, rfl, fun hne => absurd h hne⟩

theorem scrambled_out (s : State) (p : ScrInst) (o : SymRec) (l : Lfsr) :
    ((s.scrambled p o l).inst p).out = o := by rw [scrambled_eq, setInst_inst]

/-- An operation that writes a scrambler's registers but for its record leaves the delivered record. -/
theorem out_of_exec_setInst {i : Instr} {p : ScrInst} {s t : State} {v : Scrambler}
    (h : exec i s = .next (s.setInst p v)) (hv : v.out = (s.inst p).out) (ht : exec i s = .next t) :
    (t.inst p).out = (s.inst p).out := by
  obtain rfl := Host.Outcome.next.inj (h.symm.trans ht)
  rw [setInst_inst, hv]

/-- An operation that delivers a record `o` keeps of its operand what `o` keeps. -/
theorem keepsRecord_of_exec_scrambled {i : Instr} {p : ScrInst} {s t : State} {r o : SymRec} {l : Lfsr}
    (h : exec i s = .next (s.scrambled p o l)) (ho : KeepsRecord r o) (ht : exec i s = .next t) :
    KeepsRecord r (t.inst p).out := by
  obtain rfl := Host.Outcome.next.inj (h.symm.trans ht)
  rwa [scrambled_out]

/-- Settles O42: the four operations without a record write no output, nine deliver their operand, and the two on
DATA records change its data. -/
theorem scramblerTouchesDataOnly : Obligations.ScramblerTouchesDataOnly := by
  intro p s t r i hi ht
  have kept : ∀ {v : Scrambler}, exec i s = .next (s.setInst p v) → v.out = (s.inst p).out →
      (t.inst p).out = (s.inst p).out ∨ KeepsRecord r (t.inst p).out := fun h hv =>
    .inl (out_of_exec_setInst h hv ht)
  have passed : ∀ {o : SymRec} {l : Lfsr}, KeepsRecord r o → exec i s = .next (s.scrambled p o l) →
      (t.inst p).out = (s.inst p).out ∨ KeepsRecord r (t.inst p).out := fun ho h =>
    .inr (keepsRecord_of_exec_scrambled h ho ht)
  have same := keepsRecord_refl r
  simp only [List.mem_cons, List.not_mem_nil, or_false] at hi
  rcases hi with (rfl | rfl | rfl | rfl | rfl | rfl | rfl | rfl | rfl | rfl | rfl | rfl | rfl) | ⟨hdata, rfl | rfl⟩
  · exact kept (exec_scrStop p s) rfl
  · exact kept (exec_scrStart p s) rfl
  · exact kept (exec_scrBubble p s) rfl
  · exact kept (exec_ostStep p r s) rfl
  · exact passed same (exec_scr8Com p r s)
  · exact passed same (exec_scr8Skp p r s)
  · exact passed same (exec_scr8Ctl p r s)
  · exact passed same (exec_scr8Bypass p r s)
  · exact passed same (exec_scr8Err p r s)
  · exact passed same (exec_scr128Eieos p r s)
  · exact passed same (exec_scr128Skp p r s)
  · exact passed same (exec_scr128Os p r s)
  · exact passed same (exec_scr128Err p r s)
  · exact passed (keepsRecord_whiten hdata _) (exec_scr8Data p r s)
  · exact passed (keepsRecord_whiten hdata _) (exec_scr128Data p r s)

end Sys2Proof.Machine
end

section
/-! PROOF. The round trip (R266): the LFSR, the tracker and the keystream applied are functions of the record's tag
and control value, which no operation changes, so a second scrambler in step with the first applies the same
keystream again. -/

namespace Sys2Proof.Machine

-- One record through a scrambler, as a function of its registers

/-- The control value on which the LFSR is reseeded: COM, or the `EIEOS` block (R255, R262). -/
def reseeds : Codec → SymRec → Bool
  | .c8b10b, r => r.byte == 0xBC
  | .c128b130b, r => r.data == eieosPay

/-- The control byte on which the LFSR is held (R256, R263). -/
def holdByte : Codec → Byte
  | .c8b10b => 0x1C
  | .c128b130b => 0xAA

/-- The LFSR after a record. -/
def nextLfsr (c : Params) (k : Codec) (l : Lfsr) (r : SymRec) : Lfsr :=
  if r.tag = .control ∧ reseeds k r = true then c.seed k
  else if r.tag = .control ∧ r.byte = holdByte k then l
  else (symbolKey c k l).1

/-- The keystream that goes into a record's data: none but for a DATA record that is not bypassed. -/
def dataKey (c : Params) (k : Codec) (bypass : Bool) (l : Lfsr) (r : SymRec) : Payload :=
  if r.tag = .data ∧ bypass = false then (symbolKey c k l).2 else 0

/-- The tracker over a record; codec `C128B130B` does not use it (R254). -/
def tracked (k : Codec) (v : Scrambler) (r : SymRec) : Bool × Bool × Nat :=
  match k with
  | .c8b10b => track v.aft v.cnt r
  | .c128b130b => (false, v.aft, v.cnt)

/-- The keystream a scrambler applies to a record. -/
def Scrambler.keyFor (c : Params) (k : Codec) (v : Scrambler) (r : SymRec) : Payload :=
  dataKey c k (tracked k v r).1 v.lfsr r

/-- A scrambler after a record. -/
def Scrambler.afterRecord (c : Params) (k : Codec) (v : Scrambler) (r : SymRec) : Scrambler :=
  { lfsr := nextLfsr c k v.lfsr r, run := true, aft := (tracked k v r).2.1, cnt := (tracked k v r).2.2,
    out := SymRec.whiten r (v.keyFor c k r), outValid := true }

-- The model's dispatch performs that function

theorem whiten_zero (r : SymRec) : SymRec.whiten r 0 = r := by
  have hdata : r.data ^^^ (0 : Payload) = r.data := BitVec.xor_zero
  rw [SymRec.whiten, hdata]

theorem whiten_whiten (r : SymRec) (key : Payload) : SymRec.whiten (SymRec.whiten r key) key = r := by
  simp only [SymRec.whiten, BitVec.xor_assoc, BitVec.xor_self, BitVec.xor_zero]

section
variable (c : Params) {k : Codec} (l : Lfsr) {r : SymRec}

theorem nextLfsr_of_reseeds (htag : r.tag = .control) (h : reseeds k r = true) :
    nextLfsr c k l r = c.seed k := if_pos ⟨htag, h⟩

theorem nextLfsr_of_holds (htag : r.tag = .control) (hre : reseeds k r = false) (h : r.byte = holdByte k) :
    nextLfsr c k l r = l := by
  rw [nextLfsr, if_neg fun hc => Bool.false_ne_true (hre.symm.trans hc.2), if_pos ⟨htag, h⟩]

theorem nextLfsr_of_advances (hre : reseeds k r = false) (h : r.byte ≠ holdByte k) :
    nextLfsr c k l r = (symbolKey c k l).1 := by
  rw [nextLfsr, if_neg fun hc => Bool.false_ne_true (hre.symm.trans hc.2), if_neg fun hc => h hc.2]

theorem nextLfsr_of_not_control (k : Codec) (htag : r.tag ≠ .control) :
    nextLfsr c k l r = (symbolKey c k l).1 := by
  rw [nextLfsr, if_neg fun hc => htag hc.1, if_neg fun hc => htag hc.1]

theorem dataKey_of_not_data (k : Codec) (bypass : Bool) (htag : r.tag ≠ .data) :
    dataKey c k bypass l r = 0 := if_neg fun hc => htag hc.1

theorem dataKey_of_bypass (k : Codec) (r : SymRec) : dataKey c k true l r = 0 :=
  if_neg fun hc => Bool.false_ne_true hc.2.symm

theorem dataKey_of_data (k : Codec) (htag : r.tag = .data) :
    dataKey c k false l r = (symbolKey c k l).2 := if_pos ⟨htag, rfl⟩

end

/-- The operation selected for a record of codec `C8B10B` applies the tracker's verdict at the selecting state. -/
theorem exec_selectScr8 (n s : State) (p : ScrInst) (r : SymRec) :
    exec (selectScr8 n p r) s = .next (s.scrambled p
      (SymRec.whiten r (dataKey s.cfg .c8b10b (track (n.inst p).aft (n.inst p).cnt r).1 (s.inst p).lfsr r))
      (nextLfsr s.cfg .c8b10b (s.inst p).lfsr r)) := by
  unfold selectScr8
  split
  next htag =>
    rw [dataKey_of_not_data _ _ _ _ (by simp [htag]), whiten_zero]
    split
    next hcom =>
      have hre : reseeds .c8b10b r = true := beq_iff_eq.mpr hcom
      rw [exec_scr8Com, nextLfsr_of_reseeds _ _ htag hre]
    next hcom =>
      have hre : reseeds .c8b10b r = false := beq_eq_false_iff_ne.mpr hcom
      split
      next hskp => rw [exec_scr8Skp, nextLfsr_of_holds _ _ htag hre hskp]
      next hskp => rw [exec_scr8Ctl, nextLfsr_of_advances _ _ hre hskp]; rfl
  next htag =>
    rw [dataKey_of_not_data _ _ _ _ (by simp [htag]), whiten_zero, exec_scr8Err,
      nextLfsr_of_not_control _ _ _ (by simp [htag])]
    rfl
  next htag =>
    rw [nextLfsr_of_not_control _ _ _ (by simp [htag])]
    split
    next hbyp => rw [hbyp, dataKey_of_bypass, whiten_zero, exec_scr8Bypass]; rfl
    next hbyp => rw [Bool.eq_false_iff.mpr hbyp, dataKey_of_data _ _ _ htag, exec_scr8Data]; rfl

theorem exec_selectScr128 (s : State) (p : ScrInst) (r : SymRec) :
    exec (selectScr128 p r) s = .next (s.scrambled p
      (SymRec.whiten r (dataKey s.cfg .c128b130b false (s.inst p).lfsr r))
      (nextLfsr s.cfg .c128b130b (s.inst p).lfsr r)) := by
  unfold selectScr128
  split
  next htag =>
    rw [nextLfsr_of_not_control _ _ _ (by simp [htag]), dataKey_of_data _ _ _ htag, exec_scr128Data]
    rfl
  next htag =>
    rw [dataKey_of_not_data _ _ _ _ (by simp [htag]), whiten_zero]
    split
    next heieos =>
      have hre : reseeds .c128b130b r = true := beq_iff_eq.mpr heieos
      rw [exec_scr128Eieos, nextLfsr_of_reseeds _ _ htag hre]
    next heieos =>
      have hre : reseeds .c128b130b r = false := beq_eq_false_iff_ne.mpr heieos
      split
      next hskp => rw [exec_scr128Skp, nextLfsr_of_holds _ _ htag hre hskp]
      next hskp => rw [exec_scr128Os, nextLfsr_of_advances _ _ hre hskp]; rfl
  next htag =>
    rw [dataKey_of_not_data _ _ _ _ (by simp [htag]), whiten_zero, exec_scr128Err,
      nextLfsr_of_not_control _ _ _ (by simp [htag])]
    rfl

/-- With data flow and a record on its input, a scrambler performs `afterRecord` and nothing else (R251). -/
theorem runOps_selectScr_record {s : State} {p : ScrInst} (hflow : dataflow s.ctl.state = true)
    (hin : s.inValid p = true) :
    runOps (selectScr s p) s =
      .next (s.setInst p ((s.inst p).afterRecord s.cfg s.lc.codec (s.inRec p))) := by
  rw [selectScr, if_pos hflow, if_pos hin, runOps_cons_next (exec_scrStart p s)]
  cases s.lc.codec with
  | c8b10b =>
    dsimp only
    rw [runOps_cons_next (exec_ostStep p _ _), runOps_cons_next (exec_selectScr8 s _ p _), runOps_nil]
    simp only [scrambled_eq, setInst_setInst, setInst_inst, setInst_cfg]
    rfl
  | c128b130b =>
    dsimp only
    rw [runOps_cons_next (exec_selectScr128 _ p _), runOps_nil]
    simp only [scrambled_eq, setInst_setInst, setInst_inst, setInst_cfg]
    rfl

theorem passOne_record {s : State} (p : ScrInst) (hflow : dataflow s.ctl.state = true) (r : SymRec) :
    ∃ t, passOne p s r = .next t ∧ t.inst p = (s.inst p).afterRecord s.cfg s.lc.codec r ∧
      t.cfg = s.cfg ∧ t.ctl = s.ctl ∧ t.lc = s.lc := by
  cases p with
  | scr =>
    exact ⟨_, runOps_selectScr_record (p := .scr)
      (s := s.setNet { s.net with txValid := true, txRec := r }) hflow rfl, rfl, rfl, rfl, rfl⟩
  | dsc =>
    exact ⟨_, runOps_selectScr_record (p := .dsc)
      (s := s.setEbr { s.ebr with outValid := true, out := r }) hflow rfl, rfl, rfl, rfl, rfl⟩

-- What a scrambler reads of a record is not what it changes in it

theorem keyFor_of_not_data (c : Params) (k : Codec) (v : Scrambler) {r : SymRec} (h : r.tag ≠ .data) :
    v.keyFor c k r = 0 := dataKey_of_not_data c _ k _ h

/-- What reads of a DATA record only the fields other than its data reads the same of the record delivered. -/
theorem map_whiten_keyFor {α : Type} {f : SymRec → α}
    (hf : ∀ r key, r.tag = .data → f (SymRec.whiten r key) = f r) (c : Params) (k : Codec) (v : Scrambler)
    (r : SymRec) : f (SymRec.whiten r (v.keyFor c k r)) = f r := by
  by_cases htag : r.tag = .data
  · exact hf r _ htag
  · rw [keyFor_of_not_data c k v htag, whiten_zero]

theorem nextLfsr_whiten (c : Params) (k : Codec) (l : Lfsr) (r : SymRec) (key : Payload) (h : r.tag = .data) :
    nextLfsr c k l (SymRec.whiten r key) = nextLfsr c k l r := by
  have hne : r.tag ≠ .control := by simp [h]
  rw [nextLfsr_of_not_control c l k (r := SymRec.whiten r key) hne, nextLfsr_of_not_control c l k hne]

/-- The tracker takes every DATA symbol alike (R254). -/
theorem tracked_whiten (k : Codec) (v : Scrambler) (r : SymRec) (key : Payload) (h : r.tag = .data) :
    tracked k v (SymRec.whiten r key) = tracked k v r := by
  cases k with
  | c8b10b => simp [tracked, track, SymRec.whiten, h]
  | c128b130b => rfl

theorem keyFor_whiten (c : Params) (k : Codec) (v : Scrambler) (r : SymRec) (key : Payload)
    (h : r.tag = .data) : v.keyFor c k (SymRec.whiten r key) = v.keyFor c k r := by
  rw [Scrambler.keyFor, tracked_whiten k v r key h]
  rfl

/-- R266 for one record: a scrambler fed what it would deliver moves as it does on the record itself, and
gives the record back. -/
theorem afterRecord_out (c : Params) (k : Codec) (v : Scrambler) (r : SymRec) :
    v.afterRecord c k (v.afterRecord c k r).out = { v.afterRecord c k r with out := r } := by
  have hlfsr : nextLfsr c k v.lfsr (SymRec.whiten r (v.keyFor c k r)) = nextLfsr c k v.lfsr r :=
    map_whiten_keyFor (nextLfsr_whiten c k v.lfsr) c k v r
  have htrack : tracked k v (SymRec.whiten r (v.keyFor c k r)) = tracked k v r :=
    map_whiten_keyFor (tracked_whiten k v) c k v r
  have hkey : v.keyFor c k (SymRec.whiten r (v.keyFor c k r)) = v.keyFor c k r :=
    map_whiten_keyFor (keyFor_whiten c k v) c k v r
  simp only [Scrambler.afterRecord, hlfsr, htrack, hkey, whiten_whiten]

-- Two scramblers in step

/-- Two scramblers with the same LFSR and tracker. -/
structure InStep (v w : Scrambler) : Prop where
  lfsr : v.lfsr = w.lfsr
  aft : v.aft = w.aft
  cnt : v.cnt = w.cnt

theorem InStep.symm {v w : Scrambler} (h : InStep v w) : InStep w v := ⟨h.lfsr.symm, h.aft.symm, h.cnt.symm⟩

/-- The LFSR and the tracker are all a scrambler reads of itself. -/
theorem InStep.afterRecord_eq {v w : Scrambler} (h : InStep v w) (c : Params) (k : Codec) (r : SymRec) :
    w.afterRecord c k r = v.afterRecord c k r := by
  have htrack : tracked k w r = tracked k v r := by
    cases k <;> simp only [tracked, h.aft, h.cnt]
  rw [Scrambler.afterRecord, Scrambler.afterRecord, Scrambler.keyFor, Scrambler.keyFor, htrack, h.lfsr]

/-- Scrambler `p` of `s` and scrambler `q` of `t` are in step, under the same codec and with data flow. -/
structure Synced (p q : ScrInst) (s t : State) : Prop where
  flows : dataflow s.ctl.state = true
  cfg : t.cfg = s.cfg
  ctl : t.ctl = s.ctl
  lc : t.lc = s.lc
  inStep : InStep (s.inst p) (t.inst q)

/-- One record through both: it comes back, and they stay in step. -/
theorem Synced.passOne {p q : ScrInst} {s t : State} (h : Synced p q s t) (r : SymRec) :
    ∃ s' t', passOne p s r = .next s' ∧ passOne q t (s'.inst p).out = .next t' ∧
      (t'.inst q).out = r ∧ Synced p q s' t' := by
  obtain ⟨s', hs, hp, hscfg, hsctl, hslc⟩ := passOne_record p h.flows r
  obtain ⟨t', ht, hq, htcfg, htctl, htlc⟩ :=
    passOne_record (s := t) q (by rw [h.ctl]; exact h.flows) (s'.inst p).out
  have hback : t'.inst q = { s'.inst p with out := r } := by
    rw [hq, h.cfg, h.lc, h.inStep.afterRecord_eq, hp, afterRecord_out]
  refine ⟨s', t', hs, ht, by rw [hback], ?_⟩
  exact { flows := by rw [hsctl]; exact h.flows
          cfg := by rw [htcfg, h.cfg, hscfg]
          ctl := by rw [htctl, h.ctl, hsctl]
          lc := by rw [htlc, h.lc, hslc]
          inStep := by rw [hback]; exact ⟨rfl, rfl, rfl⟩ }

theorem passAll_cons_next {p : ScrInst} {s t : State} {r : SymRec} (h : passOne p s r = .next t)
    (rest : List SymRec) :
    passAll p s (r :: rest) = (passAll p t rest).map (fun out => (t.inst p).out :: out) := by
  rw [passAll, h]

/-- A sequence through both comes back. -/
theorem Synced.passAll {p q : ScrInst} (rs : List SymRec) {s t : State} (h : Synced p q s t) :
    ∃ out, passAll p s rs = some out ∧ passAll q t out = some rs := by
  induction rs generalizing s t with
  | nil => exact ⟨[], rfl, rfl⟩
  | cons r rest ih =>
    obtain ⟨s', t', hs, ht, hback, hsync⟩ := h.passOne r
    obtain ⟨out, hout, hrest⟩ := ih hsync
    refine ⟨(s'.inst p).out :: out, ?_, ?_⟩
    · rw [passAll_cons_next hs, hout, Option.map_some]
    · rw [passAll_cons_next ht, hrest, Option.map_some, hback]

/-- Settles O41: the two scramblers of one state are in step, whichever comes first. -/
theorem scramblerRoundTrip : Obligations.ScramblerRoundTrip := by
  intro s rs hstate hlfsr haft hcnt
  have hflow : dataflow s.ctl.state = true := by rcases hstate with h | h <;> rw [h] <;> rfl
  have hstep : InStep s.scr s.dsc := ⟨hlfsr, haft, hcnt⟩
  exact ⟨Synced.passAll rs ⟨hflow, rfl, rfl, rfl, hstep⟩, Synced.passAll rs ⟨hflow, rfl, rfl, rfl, hstep.symm⟩⟩

end Sys2Proof.Machine
end

section
/-! PROOF. Signal-detect debounce and receiver detection (`spec/46_idle_detect.md` R276, R280 to R282). -/

namespace Sys2Proof.Machine

-- IDL.DEBOUNCE, one equation per case of R276

theorem exec_idlDebounce_unchanged {s : State} (h : s.sync.sdC2 = s.idl.present) :
    exec .idlDebounce s = .next (s.setIdl { s.idl with cnt := 0 }) := by
  rw [exec, execIdlDebounce, if_pos h]

/-- The `SIGDET_DEBOUNCE`-th differing sample in a row: the value is taken. -/
theorem exec_idlDebounce_taken {s : State} (h : s.sync.sdC2 ≠ s.idl.present)
    (hcnt : s.cfg.sigdetDebounce ≤ s.idl.cnt + 1) :
    exec .idlDebounce s = .next (s.setIdl { cnt := 0, present := s.sync.sdC2 }) := by
  rw [exec, execIdlDebounce, if_neg h, if_pos hcnt]

theorem exec_idlDebounce_counted {s : State} (h : s.sync.sdC2 ≠ s.idl.present)
    (hcnt : s.idl.cnt + 1 < s.cfg.sigdetDebounce) :
    exec .idlDebounce s = .next (s.setIdl { s.idl with cnt := s.idl.cnt + 1 }) := by
  rw [exec, execIdlDebounce, if_neg h, if_neg (Nat.not_le.mpr hcnt)]

/-- Settles O44: the three cases of R276, on the sample first and then on the count. -/
theorem debounceResult : Obligations.DebounceResult := by
  intro s
  exact ⟨exec_idlDebounce_unchanged, exec_idlDebounce_taken, exec_idlDebounce_counted⟩

-- Receiver detection

theorem exec_rxdStart (s : State) : exec .rxdStart s = .next (s.setRxd { s.rxd with busy := true }) := rfl

/-- The result comes with the completion pulse (R281). -/
theorem exec_rxdDone (s : State) :
    exec .rxdDone s = .next ((s.setCtl { s.ctl with phyStatus := true }).setRxd
      { busy := false, done := true, present := s.inp.rxdetPresent }) := by
  rw [exec, execRxdDone, pulse_eq]

theorem exec_rxdClear (s : State) : exec .rxdClear s = .next (s.setRxd { s.rxd with done := false }) := rfl

/-- Settles O45: each operation writes the receiver-detect registers, and RXD.DONE the pulse besides. -/
theorem receiverDetectResults : Obligations.ReceiverDetectResults := by
  intro s
  exact ⟨exec_rxdStart s, exec_rxdDone s, exec_rxdClear s⟩

end Sys2Proof.Machine
end

section
/-! PROOF. The controller's operations (`spec/47_controller.md` R294 to R313): the whole effect of each. -/

namespace Sys2Proof.Machine

-- one theorem at a time: elaborated side by side they outgrow the checker's memory
set_option Elab.async false

/-- Settles O46: `hardReset_eq`, with the reset values of R32 and R36 in place of their names. -/
theorem hardResetResult : Obligations.HardResetResult := fun s => congrArg Host.Outcome.next (hardReset_eq s)

-- Bring-up and the power states

theorem exec_ctlResetReq (s : State) : exec .ctlResetReq s = .next
    ((s.setCtl { s.ctl with phyStatus := false }).setCdc { req := true, cmd := resetCommand s.want }) := rfl

theorem exec_ctlDetectOk (s : State) : exec .ctlDetectOk s = .next
    ((s.setCdc { s.cdc with req := false }).setCtl { s.ctl with phyStatus := false, state := .align }) := rfl

theorem exec_ctlAlignOk (s : State) :
    exec .ctlAlignOk s = .next (s.setCtl { s.ctl with phyStatus := false, state := .configure }) := rfl

theorem exec_ctlConfigureOk (s : State) :
    exec .ctlConfigureOk s = .next (s.setCtl { s.ctl with phyStatus := true, state := .active }) := rfl

theorem exec_ctlPowerdown (s : State) : exec .ctlPowerdown s = .next
    (((s.setLc { s.lc with power := s.net.powerdown }).setCdc { req := true, cmd := flushCommand s.want }).setCtl
      { s.ctl with phyStatus := false, idleDone := false, state := .idle }) := rfl

theorem exec_ctlPowerup (s : State) : exec .ctlPowerup s = .next
    (((s.setCdc { s.cdc with req := false }).setLc { s.lc with power := 0 }).setCtl
      { s.ctl with phyStatus := false, state := .configure }) := rfl

/-- Settles O47: each operation is its updates of the controller, Link Configuration and the request. -/
theorem controllerStateResults : Obligations.ControllerStateResults := fun s =>
  ⟨exec_ctlResetReq s, rfl, exec_ctlDetectOk s, exec_ctlAlignOk s, exec_ctlConfigureOk s, exec_ctlPowerdown s, rfl,
    rfl, exec_ctlPowerup s, rfl⟩

-- Escalation and the return

theorem exec_ctlFatal (c : Cause) (s : State) : exec (.ctlFatal c) s = .next (s.setCtl
    { s.ctl with phyStatus := false, cause := c, causeIsRate := false, state := .transition }) := rfl

/-- `CTL.TIMEOUT` is `CTL.FATAL` with cause 6 (R309). -/
theorem exec_ctlTimeout (s : State) : exec .ctlTimeout s = exec (.ctlFatal .commandTimeout) s := rfl

theorem exec_ctlRate (r : RateCode) (s : State) : exec (.ctlRate r) s = .next
    ((s.setLc { s.lc with pendRate := r }).setCtl
      { s.ctl with phyStatus := false, causeIsRate := true, state := .transition }) := rfl

theorem exec_ctlTransitionClose (s : State) : exec .ctlTransitionClose s = .next
    ((s.setCtl { s.ctl with phyStatus := false }).setCdc { s.cdc with req := false }) := rfl

theorem exec_ctlTransitionDone_rate {s : State} (h : s.ctl.causeIsRate = true) :
    exec .ctlTransitionDone s = .next ((s.setLc { s.lc with rate := s.lc.pendRate, power := 0 }).setCtl
      { s.ctl with phyStatus := false, rxCfgDone := false, state := .reset }) :=
  congrArg Host.Outcome.next (finishTransition_rate (s := s.clearPulse) h)

theorem exec_ctlTransitionDone_error {s : State} (h : s.ctl.causeIsRate = false) :
    exec .ctlTransitionDone s = .next ((s.setLc { s.lc with errCause := s.ctl.cause, power := 0 }).setCtl
      { s.ctl with phyStatus := false, rxCfgDone := false, state := .reset }) :=
  congrArg Host.Outcome.next (finishTransition_error (s := s.clearPulse) h)

/-- Settles O48: the return from TRANSITION by its two cases. -/
theorem escalationResults : Obligations.EscalationResults := fun s =>
  ⟨fun c => exec_ctlFatal c s, (exec_ctlTimeout s).trans (exec_ctlFatal _ s), fun r => exec_ctlRate r s,
    exec_ctlTransitionClose s, exec_ctlTransitionDone_rate, exec_ctlTransitionDone_error⟩

-- The timer, the run counters and the codec bit

theorem waits_iff (q : CtlState) : waits q = true ↔ q = .detect ∨ q = .align ∨ q = .configure := by
  cases q <;> decide

theorem dataflow_iff (q : CtlState) : dataflow q = true ↔ q = .configure ∨ q = .active := by
  cases q <;> decide

theorem exec_ctlTick_held {s : State} {q : CtlState} (hq : s.ctl.state = q) (hw : waits q = true) :
    exec (.ctlTick q) s = .next (s.setCtl { s.ctl with timer := s.ctl.timer + 1 }) := by
  rw [exec, execCtlTick, if_pos ⟨hq, hw⟩]

theorem exec_ctlTick_clear {s : State} {q : CtlState} (h : ¬(s.ctl.state = q ∧ waits q = true)) :
    exec (.ctlTick q) s = .next (s.setCtl { s.ctl with timer := 0 }) := by
  rw [exec, execCtlTick, if_neg h]

theorem exec_ctlMonitor (s : State) : exec .ctlMonitor s =
    .next (s.setCtl { s.ctl with errRun := s.errRunNext, lossRun := s.lossRunNext }) := rfl

theorem exec_ctlCodec_loads {s : State} (h : s.ctl.state = .reset ∨ s.ctl.state = .transition) :
    exec .ctlCodec s = .next (s.setLc { s.lc with codec := s.want }) := by
  rw [exec, execCtlCodec, if_pos h]

theorem exec_ctlCodec_keeps {s : State} (h : ¬(s.ctl.state = .reset ∨ s.ctl.state = .transition)) :
    exec .ctlCodec s = .next s := by
  rw [exec, execCtlCodec, if_neg h]

/-- Settles O49: the timer by whether a wait state is held, the codec bit by whether it is loaded. -/
theorem controllerCounterResults : Obligations.ControllerCounterResults := by
  intro s
  refine ⟨fun q hq hw => exec_ctlTick_held hq ((waits_iff q).2 hw), fun q h => exec_ctlTick_clear ?_, ?_,
    exec_ctlCodec_loads, fun hr ht => exec_ctlCodec_keeps (not_or.2 ⟨hr, ht⟩)⟩
  · rintro ⟨hq, hw⟩
    rcases h with hne | ⟨hd, ha, hc⟩
    · exact hne hq
    · rcases (waits_iff q).1 hw with hq | hq | hq
      · exact hd hq
      · exact ha hq
      · exact hc hq
  · rw [exec_ctlMonitor, State.errRunNext, State.lossRunNext]
    simp only [dataflow_iff]
    rfl

end Sys2Proof.Machine
end

section
/-! PROOF. The fatal signal (R295): the first condition of the order, and the causes of the transition table (R314). -/

namespace Sys2Proof.Machine

-- one theorem at a time: elaborated side by side they outgrow the checker's memory
set_option Elab.async false

theorem bufferExamined_iff (q : CtlState) : bufferExamined q = true ↔ q = .align ∨ q = .configure ∨ q = .active := by
  cases q <;> decide

/-- The timer of DETECT, ALIGN or CONFIGURE has reached that state's limit (R295, row 5). -/
theorem timedOut_iff (s : State) : s.timedOut = true ↔
    s.ctl.state = .detect ∧ s.cfg.tDetect ≤ s.ctl.timer ∨ s.ctl.state = .align ∧ s.cfg.tAlign ≤ s.ctl.timer ∨
      s.ctl.state = .configure ∧ s.cfg.tConfigure ≤ s.ctl.timer := by
  unfold State.timedOut
  cases s.ctl.state <;> simp [timeLimit]

/-- The fatal signal as a choice between the five conditions in words (R295). -/
theorem fatal_eq (s : State) : s.fatal =
    if (s.ctl.state = .align ∨ s.ctl.state = .configure ∨ s.ctl.state = .active) ∧ s.sync.ovfC2 = true then
      .bufferOverflow
    else if (s.ctl.state = .align ∨ s.ctl.state = .configure ∨ s.ctl.state = .active) ∧ s.ebr.unf = true then
      .bufferUnderflow
    else if (s.ctl.state = .configure ∨ s.ctl.state = .active) ∧ s.cfg.alignLossLimit ≤ s.ctl.lossRun then
      .alignmentLost
    else if s.ctl.state = .active ∧ s.cfg.decodeErrLimit ≤ s.ctl.errRun then .scramblerDesync
    else if s.ctl.state = .detect ∧ s.cfg.tDetect ≤ s.ctl.timer ∨ s.ctl.state = .align ∧ s.cfg.tAlign ≤ s.ctl.timer ∨
        s.ctl.state = .configure ∧ s.cfg.tConfigure ≤ s.ctl.timer then .commandTimeout
    else .none := by
  simp only [State.fatal, Bool.and_eq_true, decide_eq_true_eq, beq_iff_eq, bufferExamined_iff, dataflow_iff,
    timedOut_iff]

/-- Settles O53: the conditions of `fatal_eq` one after another. -/
theorem fatalOrder : Obligations.FatalOrder := by
  intro s
  dsimp only
  refine ⟨fun ho => ?_, fun ho hu => ?_, fun ho hu hl => ?_, fun ho hu hl he => ?_, fun ho hu hl he ht => ?_,
    fun ho hu hl he ht => ?_, fatal_ne_codecDecodeError s⟩
  · rw [fatal_eq, if_pos ho]
  · rw [fatal_eq, if_neg ho, if_pos hu]
  · rw [fatal_eq, if_neg ho, if_neg hu, if_pos hl]
  · rw [fatal_eq, if_neg ho, if_neg hu, if_neg hl, if_pos he]
  · rw [fatal_eq, if_neg ho, if_neg hu, if_neg hl, if_neg he, if_pos ht]
  · rw [fatal_eq, if_neg ho, if_neg hu, if_neg hl, if_neg he, if_neg ht]

/-- A structural error carries a cause that the transition table lists for the controller's state (R314). -/
theorem fatal_possible {s : State} (h : s.fatal ≠ .none) : s.fatal ∈ possibleCauses s.ctl.state := by
  rw [fatal_eq] at h ⊢
  split
  next ho => rcases ho.1 with hq | hq | hq <;> rw [hq] <;> decide
  next ho =>
    rw [if_neg ho] at h
    split
    next hu => rcases hu.1 with hq | hq | hq <;> rw [hq] <;> decide
    next hu =>
      rw [if_neg hu] at h
      split
      next hl => rcases hl.1 with hq | hq <;> rw [hq] <;> decide
      next hl =>
        rw [if_neg hl] at h
        split
        next he => rw [he.1]; decide
        next he =>
          rw [if_neg he] at h
          split
          next ht => rcases ht with ⟨hq, -⟩ | ⟨hq, -⟩ | ⟨hq, -⟩ <;> rw [hq] <;> decide
          next ht => exact absurd (if_neg ht) h

end Sys2Proof.Machine
end

section
/-! PROOF. Each Link Configuration register has the writers the spec names (R293). -/

namespace Sys2Proof.Machine

-- one theorem at a time: elaborated side by side they outgrow the checker's memory
set_option Elab.async false

/-- Where operation `i` takes Link Configuration from `l` to `m`, it is a writer of each register that changed. -/
structure LinkWriters (i : Instr) (l m : LinkConfig) : Prop where
  rate : m.rate ≠ l.rate → i = .ctlTransitionDone ∨ i = .ctlHardreset
  power : m.power ≠ l.power →
    i = .ctlPowerdown ∨ i = .ctlIdleChange ∨ i = .ctlPowerup ∨ i = .ctlTransitionDone ∨ i = .ctlHardreset
  codec : m.codec ≠ l.codec → i = .ctlCodec ∨ i = .ctlHardreset
  pendRate : m.pendRate ≠ l.pendRate → (∃ r, i = .ctlRate r) ∨ i = .ctlHardreset
  errCause : m.errCause ≠ l.errCause → i = .ctlTransitionDone ∨ i = .ctlHardreset

theorem LinkWriters.refl (i : Instr) (l : LinkConfig) : LinkWriters i l l := by
  constructor <;> exact fun h => absurd rfl h

theorem LinkWriters.hardreset (l m : LinkConfig) : LinkWriters .ctlHardreset l m :=
  ⟨fun _ => .inr rfl, fun _ => .inr (.inr (.inr (.inr rfl))), fun _ => .inr rfl, fun _ => .inr rfl,
    fun _ => .inr rfl⟩

/-- `CTL.CODEC` changes the codec bit alone, or nothing. -/
theorem ctlCodec_linkWriters {s t : State} (h : exec .ctlCodec s = .next t) : LinkWriters .ctlCodec s.lc t.lc := by
  by_cases hq : s.ctl.state = .reset ∨ s.ctl.state = .transition
  · cases (exec_ctlCodec_loads hq).symm.trans h
    exact { LinkWriters.refl _ s.lc with codec := fun _ => .inl rfl }
  · cases (exec_ctlCodec_keeps hq).symm.trans h
    exact .refl _ _

/-- The return from TRANSITION writes the power state beside the rate or the recorded cause. -/
theorem ctlTransitionDone_linkWriters {s t : State} (h : exec .ctlTransitionDone s = .next t) :
    LinkWriters .ctlTransitionDone s.lc t.lc := by
  have start : LinkWriters .ctlTransitionDone s.lc { s.lc with power := 0 } :=
    { LinkWriters.refl _ s.lc with power := fun _ => .inr (.inr (.inr (.inl rfl))) }
  cases hc : s.ctl.causeIsRate with
  | true =>
    cases (exec_ctlTransitionDone_rate hc).symm.trans h
    exact { start with rate := fun _ => .inl rfl }
  | false =>
    cases (exec_ctlTransitionDone_error hc).symm.trans h
    exact { start with errCause := fun _ => .inl rfl }

/-- Outside the rows of the controller, Link Configuration stays; in them, every operation by its own case. -/
theorem exec_linkWriters {i : Instr} {s t : State} (h : exec i s = .next t) : LinkWriters i s.lc t.lc := by
  by_cases hlc : t.lc = s.lc
  · rw [hlc]
    exact .refl i s.lc
  have hrow := (exec_writersNamed h).lc hlc
  have start := LinkWriters.refl i s.lc
  cases i with
  | ctlHardreset => exact .hardreset _ _
  | ctlCodec => exact ctlCodec_linkWriters h
  | ctlTransitionDone => exact ctlTransitionDone_linkWriters h
  | ctlRate r => cases h; exact { start with pendRate := fun _ => .inl ⟨r, rfl⟩ }
  | ctlPowerdown => cases h; exact { start with power := fun _ => .inl rfl }
  | ctlIdleChange => cases h; exact { start with power := fun _ => .inr (.inl rfl) }
  | ctlPowerup => cases h; exact { start with power := fun _ => .inr (.inr (.inl rfl)) }
  | cdcReq _ | ctlTransitionClose | ctlResetReq | ctlResetDone | ctlDetectOk | ctlAlignOk | ctlConfigureOk
  | ctlIdleAck | ctlFatal _ | ctlTimeout | ctlTick _ | ctlMonitor | ctlStay => cases h; exact absurd rfl hlc
  | _ => simp [Instr.rowNumber] at hrow

/-- Settles O50: every operation by its own case. -/
theorem linkConfigurationWriters : Obligations.LinkConfigurationWriters := fun _ _ _ h =>
  have w := exec_linkWriters h
  ⟨w.rate, w.power, w.codec, w.pendRate, w.errCause⟩

end Sys2Proof.Machine
end

section
/-! PROOF. The controller over a CORE edge: the transition table, the structural error, the wait states and the rate
command (R292, R295, R307 to R310, R314, R315). -/

namespace Sys2Proof.Machine

-- one theorem at a time: elaborated side by side they outgrow the checker's memory
set_option Elab.async false

/-- A CORE edge without hard reset leads to the simultaneous update and nowhere else. -/
theorem eq_afterCore_of_coreEdge {s t : State} (hr : s.inp.mac.resetN = true) (h : coreEdge s = .next t) :
    t = s.wired.afterCore := by
  rw [coreEdge_run hr] at h
  cases h
  rfl

/-- The wires carry the rate pins as they are (R344). -/
theorem wired_net_rate (s : State) : s.wired.net.rate = s.inp.mac.rate := (commandPins_fields s.inp.mac).1

-- The transition table (R314)

/-- A state operation stays in the controller's state, or follows an edge of the table. -/
theorem selected_edge {s : State} {i : Instr} (h : CtlSelected s i) :
    (after i s).ctl.state = s.ctl.state ∨ (s.ctl.state, (after i s).ctl.state) ∈ controllerEdges := by
  have along : ∀ {p q : CtlState}, s.ctl.state = p → (p, q) ∈ controllerEdges →
      (s.ctl.state, q) ∈ controllerEdges := fun hq he => hq ▸ he
  have escape : s.ctl.state ≠ .transition → (s.ctl.state, CtlState.transition) ∈ controllerEdges := by
    cases s.ctl.state with
    | transition => exact fun hq => absurd rfl hq
    | reset | detect | align | configure | active | idle => exact fun _ => by decide
  cases h with
  | close | resetReq | idleAck | idleChange | stay => exact .inl rfl
  | timeout hq | fatal hq | rate hq => exact .inr (escape hq)
  | done hq => exact .inr (along (q := .reset) hq (by decide))
  | resetDone hq => exact .inr (along (q := .detect) hq (by decide))
  | detectOk hq => exact .inr (along (q := .align) hq (by decide))
  | alignOk hq | powerup hq => exact .inr (along (q := .configure) hq (by decide))
  | configureOk hq => exact .inr (along (q := .active) hq (by decide))
  | powerdown hq => exact .inr (along (q := .idle) hq (by decide))

theorem cause_of_selected_fatal {s : State} {c : Cause} (h : CtlSelected s (.ctlFatal c)) :
    c ∈ possibleCauses s.ctl.state := by
  cases h with
  | fatal _ hf => exact fatal_possible hf

theorem cause_of_selected_timeout {s : State} (h : CtlSelected s .ctlTimeout) :
    .commandTimeout ∈ possibleCauses s.ctl.state := by
  cases h with
  | timeout _ hf => exact hf ▸ fatal_possible (hf ▸ Cause.noConfusion)

/-- Settles O51: `selected_edge` for the operation of the edge, and the causes of `fatal_possible`. -/
theorem transitionTable : Obligations.TransitionTable := by
  intro s t h
  refine ⟨fun hr => ?_, fun hr => ?_, fun c hc => cause_of_selected_fatal (hc ▸ selectCtl_selected s),
    fun ht => cause_of_selected_timeout (ht ▸ selectCtl_selected s)⟩
  · rw [coreEdge_hardReset hr] at h
    cases h
    rfl
  · rw [eq_afterCore_of_coreEdge hr h]
    exact selected_edge (selectCtl_selected s.wired)

-- The structural error and the return (R297, R308)

/-- Outside TRANSITION a structural error is taken before anything else (R315, case 3). -/
theorem after_selectCtl_fatal {s : State} (hq : s.ctl.state ≠ .transition) (hf : s.fatal ≠ .none) :
    after (selectCtl s) s = s.clearPulse.takeFatal s.fatal := by
  by_cases ht : s.fatal = .commandTimeout
  · rw [selectCtl, if_neg hq, if_pos ht, ht]
    rfl
  · rw [selectCtl, if_neg hq, if_neg ht, if_pos hf]
    rfl

theorem selectCtl_done {s : State} (hq : s.ctl.state = .transition) (hr : s.cdc.req = false) :
    selectCtl s = .ctlTransitionDone := by
  rw [selectCtl, if_pos hq, hr, if_neg Bool.false_ne_true]

/-- Settles O52: the entry is `after_selectCtl_fatal`, the return `exec_ctlTransitionDone_error`. -/
theorem fatalIsTakenFirst : Obligations.FatalIsTakenFirst := by
  constructor
  · intro s t hr h hq hf
    have hctl : after (selectCtl s.wired) s.wired = s.wired.clearPulse.takeFatal s.fatal :=
      after_selectCtl_fatal (s := s.wired) hq hf
    rw [eq_afterCore_of_coreEdge hr h]
    simp only [State.afterCore, hctl]
    exact ⟨rfl, rfl, rfl, rfl, rfl⟩
  · intro s t hr h hq hreq hc
    have hctl := after_of_exec (exec_ctlTransitionDone_error (s := s.wired) hc)
    rw [eq_afterCore_of_coreEdge hr h]
    simp only [State.afterCore, selectCtl_done (s := s.wired) hq hreq, hctl]
    exact ⟨rfl, rfl, rfl⟩

-- The wait states (R309, R310)

theorem timer_lt_of_not_timedOut {s : State} {limit : Nat} (h : s.timedOut = false)
    (hl : timeLimit s.cfg s.ctl.state = some limit) : s.ctl.timer < limit := by
  simp only [State.timedOut, hl, decide_eq_false_iff_not] at h
  exact Nat.lt_of_not_le h

/-- A wait state held over an edge counts that edge (R310). -/
theorem afterCore_timer_held {n : State} (hstay : n.afterCore.ctl.state = n.ctl.state)
    (hw : waits n.ctl.state = true) : n.afterCore.ctl.timer = n.ctl.timer + 1 := by
  have htick := after_of_exec (exec_ctlTick_held (s := after (selectCtl n) n) hstay hw)
  have htimer : n.afterCore.ctl.timer = (after (.ctlTick n.ctl.state) (after (selectCtl n) n)).ctl.timer := rfl
  rw [htimer, htick, setCtl_ctl, after_ctl_timer (selectCtl_selected n)]

/-- Settles O54: the count of `afterCore_timer_held`, below its limit as `waiting_not_timedOut` says. -/
theorem waitStatesAreBounded : Obligations.WaitStatesAreBounded := by
  intro s t hr h hw hstay
  rw [eq_afterCore_of_coreEdge hr h] at hstay ⊢
  have hrunning : s.wired.timedOut = false := waiting_not_timedOut (selectCtl_selected s.wired) hstay hw
  exact ⟨afterCore_timer_held (n := s.wired) hstay hw, fun _ => timer_lt_of_not_timedOut (s := s.wired) hrunning⟩

-- The rate command (R292, R307)

theorem rateCmd_false {s : State} (h : s.net.rate = s.lc.rate ∨ s.cfg.supports s.net.rate = false) :
    s.rateCmd = false := by
  unfold State.rateCmd
  rcases h with h | h <;> simp [h]

/-- Without a rate command, and outside TRANSITION, a state operation leaves the active and the pending rate. -/
theorem selected_rates {s : State} {i : Instr} (h : CtlSelected s i) (hq : s.ctl.state ≠ .transition)
    (hr : s.rateCmd = false) :
    (after i s).lc.rate = s.lc.rate ∧ (after i s).lc.pendRate = s.lc.pendRate := by
  cases h with
  | close ht | done ht => exact absurd ht hq
  | rate _ _ hcmd => exact absurd (hr.symm.trans hcmd) Bool.false_ne_true
  | timeout | fatal | resetReq | resetDone | detectOk | alignOk | configureOk | powerdown | idleAck | powerup
  | idleChange | stay => exact ⟨rfl, rfl⟩

/-- TRANSITION is entered by a structural error or a rate command alone (R314). -/
theorem selected_not_transition {s : State} {i : Instr} (h : CtlSelected s i) (hq : s.ctl.state ≠ .transition)
    (hr : s.rateCmd = false) (hf : s.fatal = .none) : (after i s).ctl.state ≠ .transition := by
  cases h with
  | close ht | done ht => exact absurd ht hq
  | rate _ _ hcmd => exact absurd (hr.symm.trans hcmd) Bool.false_ne_true
  | timeout _ htimeout => exact absurd (hf.symm.trans htimeout) Cause.noConfusion
  | fatal _ hfatal => exact absurd hf hfatal
  | resetDone | detectOk | alignOk | configureOk | powerdown | powerup => exact CtlState.noConfusion
  | resetReq | idleAck | idleChange | stay => exact hq

/-- Settles O55: without a rate command on the wires, no state operation takes one. -/
theorem rateCommandIsIdempotent : Obligations.RateCommandIsIdempotent := by
  intro s t hr h hrate hq
  rw [← wired_net_rate s] at hrate
  have hcmd : s.wired.rateCmd = false := rateCmd_false hrate
  have hsel := selectCtl_selected s.wired
  obtain ⟨hactive, hpending⟩ := selected_rates hsel hq hcmd
  rw [eq_afterCore_of_coreEdge hr h]
  refine ⟨hactive, hpending, fun hf => selected_not_transition hsel hq hcmd hf, ?_⟩
  have hreject : (defaultOutputs s.wired.afterCore).rateReject = !s.cfg.supports s.inp.mac.rate := rfl
  rw [hreject, Bool.not_eq_true']

end Sys2Proof.Machine
end

section
/-! PROOF. The invariant at power-up (R400), under every legal configuration (R10, R423). -/

namespace Sys2Proof.Machine

-- one theorem at a time: elaborated side by side they outgrow the checker's memory
set_option Elab.async false

/-- A hard reset finds the `core_clk` registers of power-up at their hard-reset values (R400, R402). -/
theorem resetWith_hardReset (c : Params) : (State.resetWith c).hardReset = State.resetWith c := rfl

theorem resetWith_aligner {c : Params} (hb : ConfigBounds c) : AlignerInv (State.resetWith c) where
  offset := Nat.zero_lt_succ _
  conf := Nat.zero_le _
  since := hb.alignTimeout
  locked h := Bool.noConfusion h
  valid := rfl

theorem resetWith_pointers (c : Params) : PointerInv (State.resetWith c) := by
  constructor <;> exact Nat.two_pow_pos _

theorem resetWith_counters {c : Params} (hb : ConfigBounds c) : CounterInv (State.resetWith c) :=
  ⟨Nat.zero_le _, Nat.zero_le _, Nat.zero_le _, hb.debounce⟩

/-- Settles O6: every valid bit and every flag is 0, and the bounds are those of a legal configuration. -/
theorem everyLegalPowerUpHasInvariant : Obligations.EveryLegalPowerUpHasInvariant := by
  intro c h
  have hb := configBounds_of_legal h
  exact
    { config := h
      memory := ⟨resetWith_mem_wf c, fun _ he => absurd he List.not_mem_nil, fun _ he => absurd he List.not_mem_nil⟩
      aligner := resetWith_aligner hb
      decoder := ⟨fun h => Bool.noConfusion h, fun h => Bool.noConfusion h, fun _ => rfl⟩
      pointers := resetWith_pointers c
      read := ⟨fun h => Bool.noConfusion h, fun h => Bool.noConfusion h, fun h => Bool.noConfusion h⟩
      scrambler := scrambler_hardReset_inv c .scr (Scrambler.init c)
      descrambler := scrambler_hardReset_inv c .dsc (Scrambler.init c)
      transmit := ⟨fun h => Bool.noConfusion h, fun h => Bool.noConfusion h⟩
      outputs := ⟨fun _ => ⟨rfl, rfl⟩, fun h => Bool.noConfusion h⟩
      counters := resetWith_counters hb
      request := requestInv_free (fun h => Bool.noConfusion h) (.inl rfl)
      link := resetWith_hardReset c ▸ hardReset_link (s := State.resetWith c) hb
      ready := ⟨fun h => absurd rfl h, fun h => CtlState.noConfusion h⟩ }

theorem default_legal : Params.default.legal = true := by decide

/-- Settles O5: the configuration of `State.reset` is legal. -/
theorem resetHasInvariant : Obligations.ResetHasInvariant :=
  everyLegalPowerUpHasInvariant Params.default default_legal

end Sys2Proof.Machine
end
